-- ==== Sys2Proof/Word.lean ====
section
/-! DEFINITION. The Word and byte types and the fixed-size files of Words (00_scope.md R7, R9; 10_state.md R20). -/

namespace Sys2Proof

/-- A Word: an unsigned 32-bit integer (00_scope.md R7, WORD_W). -/
abbrev Word := BitVec 32

/-- A byte. -/
abbrev Byte := BitVec 8

/-- The state vector's shape: exactly 16 Words, a 4×4 matrix in row-major order (10_state.md R20). -/
abbrev StateVec := Vector Word 16

end Sys2Proof
end

