-- ==== Sys2Proof/Syntax.lean ====
section
/-! DEFINITION. The 13 commands of the opcode map (30_encoding.md R83), each with the operand fields it uses. The fields a
command ignores (R86) are no part of its syntax (log 9). -/

namespace Sys2Proof

/-- The index of a word of S, the value of a 4-bit field RA, RB, RC or RD (30_encoding.md R82). -/
abbrev WordIndex := Fin 16

/-- A rotation amount, the value of the 5-bit field SH (30_encoding.md R82). -/
abbrev Amount := Fin 32

/-- One constructor for each row of the opcode map (30_encoding.md R83). -/
inductive Instr where
  | nop
  | add32 (ra rb rd : WordIndex)
  | xor32 (ra rb rd : WordIndex)
  | rotl32 (ra : WordIndex) (sh : Amount) (rd : WordIndex)
  | qround (ra rb rc rd : WordIndex)
  | rowround
  | colround
  | dblround
  | permute
  | hash
  | expand
  | getblock
  | configure
  deriving DecidableEq, Repr

end Sys2Proof
end

