-- ==== Sys2Proof/WellFormed.lean ====
section
/-! DEFINITION. The commands whose operands the document gives a meaning: QROUND needs four pairwise distinct indices
(42_permutation.md R141; 40_command_control.md R102). Every other field value is legal by its type. A command that is not
well formed still has an encoding and still runs: it raises ILLEGAL_OPERAND. -/

namespace Sys2Proof

/-- `distinct(a, b, c, d)` of 40_command_control.md R102. -/
abbrev distinctIndices (a b c d : WordIndex) : Prop :=
  a ≠ b ∧ a ≠ c ∧ a ≠ d ∧ b ≠ c ∧ b ≠ d ∧ c ≠ d

/-- The operand check of 40_command_control.md R102, for every command. -/
def Instr.wellFormed : Instr → Bool
  | .nop => true
  | .add32 _ _ _ => true
  | .xor32 _ _ _ => true
  | .rotl32 _ _ _ => true
  | .qround ra rb rc rd => decide (distinctIndices ra rb rc rd)
  | .rowround => true
  | .colround => true
  | .dblround => true
  | .permute => true
  | .hash => true
  | .expand => true
  | .getblock => true
  | .configure => true

end Sys2Proof
end

