-- ==== Sys2Proof/Decode.lean ====
section
/-! DEFINITION. Command words: fields, decoder, encoder, opcode map, assembler syntax and pseudo-instructions
(30_encoding.md R80–R89, R91). -/

namespace Sys2Proof

/-! ## Fields of format C (R81) -/

/-- OP, bits [5:0]. -/
def fieldOP (c : Word) : BitVec 6 := c.extractLsb' 0 6
/-- RES0, bits [7:6], reserved. -/
def fieldRES0 (c : Word) : BitVec 2 := c.extractLsb' 6 2
/-- RA, bits [11:8]. -/
def fieldRA (c : Word) : WordIndex := ⟨(c.extractLsb' 8 4).toNat, BitVec.isLt _⟩
/-- RB, bits [15:12]. -/
def fieldRB (c : Word) : WordIndex := ⟨(c.extractLsb' 12 4).toNat, BitVec.isLt _⟩
/-- RC, bits [19:16]. -/
def fieldRC (c : Word) : WordIndex := ⟨(c.extractLsb' 16 4).toNat, BitVec.isLt _⟩
/-- RD, bits [23:20]. -/
def fieldRD (c : Word) : WordIndex := ⟨(c.extractLsb' 20 4).toNat, BitVec.isLt _⟩
/-- SH, bits [28:24]. -/
def fieldSH (c : Word) : Amount := ⟨(c.extractLsb' 24 5).toNat, BitVec.isLt _⟩
/-- RES1, bits [31:29], reserved. -/
def fieldRES1 (c : Word) : BitVec 3 := c.extractLsb' 29 3

/-! ## Decoder -/

/-- Why a word is no command; both raise ILLEGAL_CMD when the word completes. -/
inductive DecodeError where
  /-- A reserved bit is set (R84). -/
  | reservedBits
  /-- The OP is one of the 40 unassigned values (R85). -/
  | unassignedOpcode
  deriving DecidableEq, Repr

/-- The command a word encodes. It depends on the word alone (R87) and ignores the fields R83 does not list (R86). -/
def decode (c : Word) : Except DecodeError Instr :=
  if fieldRES0 c ≠ 0 ∨ fieldRES1 c ≠ 0 then .error .reservedBits
  else
    match (fieldOP c).toNat with
    | 0x00 => .ok .nop
    | 0x01 => .ok (.add32 (fieldRA c) (fieldRB c) (fieldRD c))
    | 0x02 => .ok (.xor32 (fieldRA c) (fieldRB c) (fieldRD c))
    | 0x03 => .ok (.rotl32 (fieldRA c) (fieldSH c) (fieldRD c))
    | 0x08 => .ok (.qround (fieldRA c) (fieldRB c) (fieldRC c) (fieldRD c))
    | 0x09 => .ok .rowround
    | 0x0A => .ok .colround
    | 0x0B => .ok .dblround
    | 0x0C => .ok .permute
    | 0x10 => .ok .hash
    | 0x11 => .ok .expand
    | 0x12 => .ok .getblock
    | 0x18 => .ok .configure
    | _ => .error .unassignedOpcode

/-- The decoder on a word of the opcode table, whose bit numbering is the command word's own (R81). A row wider than
a command word (R80) is no command. -/
def decodeTableWord (nbits w : Nat) : Option Instr :=
  if nbits ≤ 32 then
    match decode (BitVec.ofNat 32 (w % 2 ^ nbits)) with
    | .ok i => some i
    | .error _ => none
  else none

/-! ## Encoder (R91) -/

/-- `enc(OP, RA, RB, RC, RD, SH)`. -/
def enc (op ra rb rc rd sh : Nat) : Word :=
  BitVec.ofNat 32 (op + (ra <<< 8) + (rb <<< 12) + (rc <<< 16) + (rd <<< 20) + (sh <<< 24))

/-- A command's word as an assembler writes it, with 0 in every ignored field. -/
def encode : Instr → Word
  | .nop => enc 0x00 0 0 0 0 0
  | .add32 ra rb rd => enc 0x01 ra rb 0 rd 0
  | .xor32 ra rb rd => enc 0x02 ra rb 0 rd 0
  | .rotl32 ra sh rd => enc 0x03 ra 0 0 rd sh
  | .qround ra rb rc rd => enc 0x08 ra rb rc rd 0
  | .rowround => enc 0x09 0 0 0 0 0
  | .colround => enc 0x0A 0 0 0 0 0
  | .dblround => enc 0x0B 0 0 0 0 0
  | .permute => enc 0x0C 0 0 0 0 0
  | .hash => enc 0x10 0 0 0 0 0
  | .expand => enc 0x11 0 0 0 0 0
  | .getblock => enc 0x12 0 0 0 0 0
  | .configure => enc 0x18 0 0 0 0 0

/-- The bits a command's decoding reads: the mask 0xE00000FF and the fields R83 lists for it. -/
def usedBits : Instr → Word
  | .nop => 0xE00000FF
  | .add32 _ _ _ => 0xE0F0FFFF
  | .xor32 _ _ _ => 0xE0F0FFFF
  | .rotl32 _ _ _ => 0xFFF00FFF
  | .qround _ _ _ _ => 0xE0FFFFFF
  | .rowround => 0xE00000FF
  | .colround => 0xE00000FF
  | .dblround => 0xE00000FF
  | .permute => 0xE00000FF
  | .hash => 0xE00000FF
  | .expand => 0xE00000FF
  | .getblock => 0xE00000FF
  | .configure => 0xE00000FF

/-! ## The opcode map as a table (R83) -/

/-- A row of the opcode map: a word with `word &&& mask = matchValue` is this command. -/
structure OpcodeRow where
  mnemonic : String
  mask : Word
  matchValue : Word
  deriving DecidableEq, Repr

/-- The opcode map; the mask is the same for every command. -/
def opcodeMap : List OpcodeRow :=
  [⟨"NOP", 0xE00000FF, 0x00⟩, ⟨"ADD32", 0xE00000FF, 0x01⟩, ⟨"XOR32", 0xE00000FF, 0x02⟩, ⟨"ROTL32", 0xE00000FF, 0x03⟩,
   ⟨"QROUND", 0xE00000FF, 0x08⟩, ⟨"ROWROUND", 0xE00000FF, 0x09⟩, ⟨"COLROUND", 0xE00000FF, 0x0A⟩,
   ⟨"DBLROUND", 0xE00000FF, 0x0B⟩, ⟨"PERMUTE", 0xE00000FF, 0x0C⟩, ⟨"HASH", 0xE00000FF, 0x10⟩,
   ⟨"EXPAND", 0xE00000FF, 0x11⟩, ⟨"GETBLOCK", 0xE00000FF, 0x12⟩, ⟨"CONFIGURE", 0xE00000FF, 0x18⟩]

/-- A command's mnemonic (R83). -/
def mnemonic : Instr → String
  | .nop => "NOP"
  | .add32 _ _ _ => "ADD32"
  | .xor32 _ _ _ => "XOR32"
  | .rotl32 _ _ _ => "ROTL32"
  | .qround _ _ _ _ => "QROUND"
  | .rowround => "ROWROUND"
  | .colround => "COLROUND"
  | .dblround => "DBLROUND"
  | .permute => "PERMUTE"
  | .hash => "HASH"
  | .expand => "EXPAND"
  | .getblock => "GETBLOCK"
  | .configure => "CONFIGURE"

/-! ## Assembler syntax and pseudo-instructions (R88, R89) -/

/-- An operand of the assembler syntax. -/
inductive AsmOperand where
  /-- `s0` .. `s15`. -/
  | word (i : WordIndex)
  /-- `#n`. -/
  | amount (n : Amount)
  deriving DecidableEq, Repr

/-- The operands of a command in the order the assembler lists them: the destination first for ADD32, XOR32 and
ROTL32, and y0..y3 for QROUND (R88). -/
def asmOperands : Instr → List AsmOperand
  | .nop => []
  | .add32 ra rb rd => [.word rd, .word ra, .word rb]
  | .xor32 ra rb rd => [.word rd, .word ra, .word rb]
  | .rotl32 ra sh rd => [.word rd, .word ra, .amount sh]
  | .qround ra rb rc rd => [.word ra, .word rb, .word rc, .word rd]
  | .rowround => []
  | .colround => []
  | .dblround => []
  | .permute => []
  | .hash => []
  | .expand => []
  | .getblock => []
  | .configure => []

/-- The command an assembler line denotes (R88), none where the line is no command. -/
def assemble (name : String) (operands : List AsmOperand) : Option Instr :=
  match name, operands with
  | "NOP", [] => some .nop
  | "ADD32", [.word d, .word a, .word b] => some (.add32 a b d)
  | "XOR32", [.word d, .word a, .word b] => some (.xor32 a b d)
  | "ROTL32", [.word d, .word a, .amount n] => some (.rotl32 a n d)
  | "QROUND", [.word a, .word b, .word c, .word d] => some (.qround a b c d)
  | "ROWROUND", [] => some .rowround
  | "COLROUND", [] => some .colround
  | "DBLROUND", [] => some .dblround
  | "PERMUTE", [] => some .permute
  | "HASH", [] => some .hash
  | "EXPAND", [] => some .expand
  | "GETBLOCK", [] => some .getblock
  | "CONFIGURE", [] => some .configure
  | _, _ => none

/-- `MOV32 sD, sA` (R89). -/
def mov32 (d a : WordIndex) : Instr := .rotl32 a 0 d
/-- `CLR32 sD` (R89). -/
def clr32 (d : WordIndex) : Instr := .xor32 d d d
/-- `DBL32 sD, sA` (R89). -/
def dbl32 (d a : WordIndex) : Instr := .add32 a a d
/-- The word of S at a row and a column of the matrix, both taken modulo 4 (10_state.md R20). -/
def matrixIndex (row col : Nat) : WordIndex := ⟨4 * (row % 4) + col % 4, by omega⟩
/-- `QRCOL c` (R89). -/
def qrcol (c : Fin 4) : Instr :=
  .qround (matrixIndex c c) (matrixIndex (c + 1) c) (matrixIndex (c + 2) c) (matrixIndex (c + 3) c)
/-- `QRROW r` (R89). -/
def qrrow (r : Fin 4) : Instr :=
  .qround (matrixIndex r r) (matrixIndex r (r + 1)) (matrixIndex r (r + 2)) (matrixIndex r (r + 3))

end Sys2Proof
end

