-- ==== Sys2Proof/Config.lean ====
section
/-! DEFINITION. What this hardware fixes (00_scope.md R7, R8), and the free values: constants with no body, which
nothing can evaluate. -/

namespace Sys2Proof.Config

/-- ID_VALUE, the constant the ID register reads as (10_state.md R24). -/
def idValue : Word := 0x4B303253

/-- DOUBLE_ROUNDS (00_scope.md R7; 42_permutation.md R148). -/
def doubleRoundCount : Nat := 10

/-- The two tables of expansion constants, a parameter of the block (00_scope.md R8; 44_keystream.md R190). The machine
takes its table from State (`constants`, log 15), so every command and every stream read is defined over any table. -/
structure Constants where
  /-- CONST_TWO_KEY ("sigma"). -/
  twoKey : Vector Word 4
  /-- CONST_ONE_KEY ("tau"). -/
  oneKey : Vector Word 4
  deriving DecidableEq, Repr

/-- The default values of the parameter (44_keystream.md R190), with which `State.reset` starts.
PRESUMED (the spec takes the values from general knowledge), unsafe: log 7. -/
def defaultConstants : Constants where
  twoKey := #v[0x61707865, 0x3320646E, 0x79622D32, 0x6B206574]
  oneKey := #v[0x61707865, 0x3120646E, 0x79622D36, 0x6B206574]

/-- The key modes of 44_keystream.md R191. -/
inductive KeyMode where
  /-- KEYLEN = 16: key0 in both key slots. -/
  | oneKey
  /-- KEYLEN = 32: key0 and key1. -/
  | twoKey
  deriving DecidableEq, Repr, Inhabited

/-- The key mode where KEYLEN is neither 16 nor 32, for which 44_keystream.md R193 defines nothing: a free value.
It is read only while CONFIGURED = 1, where 10_state.md R48(a) rules such a KEYLEN out. DEDUCED, safe: log 8. -/
opaque undefinedKeyMode : BitVec 8 → KeyMode

/-- `draw()` (00_scope.md R12): the free Words, one for each value of the counter `draws`. Safe: log 4. -/
opaque freeWord : Nat → Word

end Sys2Proof.Config
end

