-- ==== Sys2Proof/Machine/State.lean ====
section
/-! DEFINITION. The state of the block (10_state.md), the moves its agents may make (00_scope.md R3), and the reasons a
step can stop. -/

namespace Sys2Proof.Machine

/-! ## The agents' moves -/

/-- The size of a host access, 1, 2 or 4 bytes (20_memory.md R60). -/
inductive Size where
  | one
  | two
  | four
  deriving DecidableEq, Repr

/-- One host-port access (20_memory.md R60). A write of n bytes supplies its value in the low 8n bits of `wdata`, and
nothing reads the bits above them (log 11). -/
inductive Access where
  | read (off : BitVec 8) (n : Size)
  | write (off : BitVec 8) (n : Size) (wdata : Word)
  deriving DecidableEq, Repr

/-- One move of one of the three agents (00_scope.md R3). -/
inductive Move where
  /-- HOST performs one access. -/
  | host (a : Access)
  /-- ENGINE is given a step; it completes a command iff BUSY = 1 (log 2). -/
  | engine
  /-- RESET acts. -/
  | reset
  deriving DecidableEq, Repr

/-! ## Stops -/

/-- The reasons the machine stops with a fault: none, so the type has no constructor. "The block never stops: every
error is recorded and the block goes on accepting accesses" (93_implementation_defined.md; 60_exceptions.md R300). Log 12. -/
inductive Fault where
  deriving DecidableEq, Repr

/-- The reasons a step is refused. -/
inductive Refusal where
  /-- An instruction that has no meaning yet: raised by an arm of `exec`, and no arm raises it. Safe. -/
  | notModelled (mnemonic : String)
  deriving DecidableEq, Repr

/-- The errors the block records (60_exceptions.md R301). -/
inductive ErrorCode where
  | illegalCmd
  | illegalOperand
  | badKeylen
  | notConfigured
  | ctrOverflow
  | busy
  | access
  deriving DecidableEq, Repr

/-! ## The state -/

/-- The block's registers under the spec's own names, the block's constant table, then the model's own three fields. -/
structure State where
  /-- The state vector S[0..15] (10_state.md R20). -/
  S : StateVec
  /-- CTRL.KEYLEN, CTRL [7:0] (R25). -/
  KEYLEN : BitVec 8
  /-- CTRL.IE, CTRL [8] (R26). -/
  IE : Bool
  /-- STATUS.BUSY, STATUS [0] (R29). -/
  BUSY : Bool
  /-- STATUS.DONE, STATUS [1] (R30). -/
  DONE : Bool
  /-- STATUS.ERR, STATUS [2] (R31). -/
  ERR : Bool
  /-- STATUS.CONFIGURED, STATUS [3] (R32). -/
  CONFIGURED : Bool
  /-- STATUS.KSEND, STATUS [4] (R33). -/
  KSEND : Bool
  /-- STATUS.ERRCODE, STATUS [11:8] (R34). -/
  ERRCODE : BitVec 4
  /-- ERRINFO (R36). -/
  ERRINFO : Word
  /-- KEY[0..7] (R37). -/
  KEY : Vector Word 8
  /-- NONCE[0..1] (R38). -/
  NONCE : Vector Word 2
  /-- BLKCTR (R39). -/
  BLKCTR : BitVec 64
  /-- KSBLK (R40). -/
  KSBLK : BitVec 64
  /-- KSOFF, the stored bits [5:0] (R41). -/
  KSOFF : BitVec 6
  /-- CMDQ, the latched command, hidden (R43). -/
  CMDQ : Word
  /-- The block's expansion constants, CONST_TWO_KEY and CONST_ONE_KEY: a parameter of the block, which no register holds and
  no step changes (44_keystream.md R190). Carried in State as `exec` and `step` have no other argument: log 15. -/
  constants : Config.Constants
  /-- The model's own: the moves still to come, the next first (log 1). -/
  moves : List Move
  /-- The model's own: what the last host access returned, none after a write (log 5). -/
  rdata : Option Word
  /-- The model's own: how many `draw()` values have been taken (log 4). -/
  draws : Nat
  deriving DecidableEq, Repr

/-- The state right after reset (70_reset_and_hazards.md R401) of a block with the constant table `cs`, with no move placed.
The values of `moves`, `rdata` and `draws` are the model's, DESIGN CHOICE: logs 1, 4, 5. -/
def State.resetWith (cs : Config.Constants := Config.defaultConstants) : State where
  S := #v[0, 0, 0, 0, 0, 0, 0, 0, 0, 0, 0, 0, 0, 0, 0, 0]
  KEYLEN := 0
  IE := false
  BUSY := false
  DONE := false
  ERR := false
  CONFIGURED := false
  KSEND := false
  ERRCODE := 0
  ERRINFO := 0
  KEY := #v[0, 0, 0, 0, 0, 0, 0, 0]
  NONCE := #v[0, 0]
  BLKCTR := 0
  KSBLK := 0
  KSOFF := 0
  CMDQ := 0
  constants := cs
  moves := []
  rdata := none
  draws := 0

/-- The state right after reset of a block with the default constants (44_keystream.md R190; log 7). -/
def State.reset : State := State.resetWith

end Sys2Proof.Machine
end

