-- ==== Sys2Proof/Machine/Operands.lean ====
section
/-! DEFINITION. Operand forms: byte lanes of a Word (20_memory.md R52, 43_block_function.md R170–R172), the words of S, the
halves of the 64-bit registers, and the register map of the host port (20_memory.md R51). -/

namespace Sys2Proof.Machine

/-! ## Byte lanes -/

/-- Byte k of a Word, `W[8k+7:8k]` (20_memory.md R52). -/
def lane (w : Word) (k : Nat) : Byte := w.extractLsb' (8 * k) 8

/-- A Word with byte k replaced: `(W and not(0xFF << 8k)) or (zext_32(b) << 8k)` (20_memory.md R62). -/
def withLane (w : Word) (k : Nat) (b : Byte) : Word :=
  (w &&& ~~~((0xFF : Word) <<< (8 * k))) ||| (b.setWidth 32 <<< (8 * k))

/-- `pack(b0, b1, b2, b3)` = {b3, b2, b1, b0} (43_block_function.md R170). -/
def pack (b0 b1 b2 b3 : Byte) : Word := b3 ++ b2 ++ b1 ++ b0

/-- `unpack(w)`: exactly 4 bytes, the low byte first (R171). -/
def unpack (w : Word) : Vector Byte 4 := #v[lane w 0, lane w 1, lane w 2, lane w 3]

/-- `bytes(W)`: the unpacked Words concatenated in index order, 64 bytes (R172). -/
def bytes (w : StateVec) : Vector Byte 64 :=
  ⟨(w.toList.flatMap fun x => (unpack x).toList).toArray, by
    simp [List.length_flatMap, List.map_const']⟩

/-- Word i of `words(B)`: `pack(B[4i], B[4i+1], B[4i+2], B[4i+3])` (R172). -/
def wordAt (b : Vector Byte 64) (i : WordIndex) : Word :=
  pack (b[4 * i.val]'(by omega)) (b[4 * i.val + 1]'(by omega)) (b[4 * i.val + 2]'(by omega)) (b[4 * i.val + 3]'(by omega))

/-- The 16 Words with word i given by `f i`. -/
def stateVecOf (f : WordIndex → Word) : StateVec :=
  #v[f 0, f 1, f 2, f 3, f 4, f 5, f 6, f 7, f 8, f 9, f 10, f 11, f 12, f 13, f 14, f 15]

/-- `words(B)`: 64 bytes as 16 Words (R172). -/
def words (b : Vector Byte 64) : StateVec := stateVecOf (wordAt b)

/-! ## Words of S -/

/-- S[i] (10_state.md R20). -/
def readS (i : WordIndex) (s : State) : Word := s.S.get i

/-- S[i] <- v. -/
def writeS (i : WordIndex) (v : Word) (s : State) : State := { s with S := s.S.set i.val v i.isLt }

/-- S <- T, all 16 words at once (00_scope.md R11). -/
def writeAllS (t : StateVec) (s : State) : State := { s with S := t }

/-! ## Halves of a 64-bit register -/

/-- The low word (h = 0, at the lower offset) or the high word (h = 1) (20_memory.md R52). -/
def half (v : BitVec 64) (h : Fin 2) : Word := v.extractLsb' (32 * h.val) 32

/-- A 64-bit register with one word replaced. -/
def withHalf (v : BitVec 64) (h : Fin 2) (w : Word) : BitVec 64 :=
  if h = 0 then half v 1 ++ w else w ++ half v 0

/-! ## The register map (20_memory.md R51) -/

/-- What an offset addresses: a register, or one word of a data window. -/
inductive Reg where
  | id
  | ctrl
  | cmd
  | status
  | errinfo
  | s (i : WordIndex)
  | key (j : Fin 8)
  | nonce (j : Fin 2)
  | blkctr (h : Fin 2)
  | ksblk (h : Fin 2)
  | ksoff
  | ksData
  | reserved
  deriving DecidableEq, Repr

/-- `Decode(off)` of 20_memory.md R60, by the map of R51 and the window formulas of R61. -/
def decodeOffset (off : BitVec 8) : Reg :=
  let o := off.toNat
  if o < 0x04 then .id
  else if o < 0x08 then .ctrl
  else if o < 0x0C then .cmd
  else if o < 0x10 then .status
  else if o < 0x14 then .errinfo
  else if o < 0x40 then .reserved
  else if o < 0x80 then .s (Fin.ofNat 16 ((o - 0x40) / 4))
  else if o < 0xA0 then .key (Fin.ofNat 8 ((o - 0x80) / 4))
  else if o < 0xA8 then .nonce (Fin.ofNat 2 ((o - 0xA0) / 4))
  else if o < 0xB0 then .blkctr (Fin.ofNat 2 ((o - 0xA8) / 4))
  else if o < 0xB8 then .ksblk (Fin.ofNat 2 ((o - 0xB0) / 4))
  else if o < 0xBC then .ksoff
  else if o < 0xC0 then .ksData
  else .reserved

/-- The registers of class control, which accept no byte access (R51, R56). -/
def Reg.wordOnly : Reg → Bool
  | .id => true
  | .ctrl => true
  | .cmd => true
  | .status => true
  | .errinfo => true
  | .ksoff => true
  | .s _ => false
  | .key _ => false
  | .nonce _ => false
  | .blkctr _ => false
  | .ksblk _ => false
  | .ksData => false
  | .reserved => false

/-- The registers whose direction is read only (R51, R56). -/
def Reg.readOnly : Reg → Bool
  | .id => true
  | .errinfo => true
  | .ksData => true
  | .ctrl => false
  | .cmd => false
  | .status => false
  | .ksoff => false
  | .s _ => false
  | .key _ => false
  | .nonce _ => false
  | .blkctr _ => false
  | .ksblk _ => false
  | .reserved => false

/-- Whether the word is one of the S window. -/
def Reg.isS : Reg → Bool
  | .s _ => true
  | .id => false
  | .ctrl => false
  | .cmd => false
  | .status => false
  | .errinfo => false
  | .key _ => false
  | .nonce _ => false
  | .blkctr _ => false
  | .ksblk _ => false
  | .ksoff => false
  | .ksData => false
  | .reserved => false

/-! ## Accesses -/

/-- The size in bytes. -/
def Size.toNat : Size → Nat
  | .one => 1
  | .two => 2
  | .four => 4

/-- `szcode(n)` (20_memory.md R60). -/
def Size.code : Size → BitVec 2
  | .one => 0
  | .two => 1
  | .four => 2

/-- The offset of an access. -/
def Access.off : Access → BitVec 8
  | .read off _ => off
  | .write off _ _ => off

/-- The size of an access. -/
def Access.size : Access → Size
  | .read _ n => n
  | .write _ n _ => n

/-- Whether an access is a write. -/
def Access.isWrite : Access → Bool
  | .read _ _ => false
  | .write _ _ _ => true

/-- The register or window word an access addresses. -/
def Access.reg (a : Access) : Reg := decodeOffset a.off

/-- The value of n bytes a read returns, zero-extended (20_memory.md R53; log 5). -/
def truncateTo (n : Size) (w : Word) : Word := if n = .one then (w.setWidth 8).setWidth 32 else w

end Sys2Proof.Machine
end

