-- ==== Sys2Proof/Machine/Flags.lean ====
section
/-! DEFINITION. The flags of the block (10_state.md R29–R35, R46, R47): the STATUS and CTRL words, the interrupt line, and
the changes a command's acceptance and completion make to BUSY and DONE. No command computes an arithmetic flag (R47). -/

namespace Sys2Proof.Machine

/-- STATUS as a word, the reserved bits 0 (20_memory.md R63; 10_state.md R35). -/
def statusWord (s : State) : Word :=
  (s.ERRCODE ++ (0 : BitVec 3) ++ BitVec.ofBool s.KSEND ++ BitVec.ofBool s.CONFIGURED ++ BitVec.ofBool s.ERR
    ++ BitVec.ofBool s.DONE ++ BitVec.ofBool s.BUSY).setWidth 32

/-- CTRL as a word, the reserved bits 0 (20_memory.md R63; 10_state.md R27). -/
def ctrlWord (s : State) : Word := (BitVec.ofBool s.IE ++ s.KEYLEN).setWidth 32

/-- The interrupt line (10_state.md R46; 60_exceptions.md R308). -/
def irq (s : State) : Bool := s.IE && (s.DONE || s.ERR)

/-- Acceptance of a command word (40_command_control.md R100). -/
def acceptCommand (c : Word) (s : State) : State := { s with CMDQ := c, BUSY := true, DONE := false }

/-- The end of every completion, successful or failed (40_command_control.md R101). -/
def complete (s : State) : State := { s with BUSY := false, DONE := true }

/-- A CTRL write (20_memory.md R64). -/
def writeCtrl (w : Word) (s : State) : State :=
  { s with KEYLEN := w.extractLsb' 0 8, IE := w.getLsbD 8, CONFIGURED := false }

/-- A KSOFF write (20_memory.md R67). -/
def writeKsoff (w : Word) (s : State) : State := { s with KSOFF := w.extractLsb' 0 6, KSEND := false }

end Sys2Proof.Machine
end

