-- ==== Sys2Proof/Machine/Ops.lean ====
section
/-! DEFINITION. The shared operations: recording an error (this block's only form of taking an exception, 60_exceptions.md
R300, R302) and clearing the record (R304), what an access returns, and reading and writing the registers and windows
(20_memory.md R61–R67). -/

namespace Sys2Proof.Machine

/-! ## Recording an error, and clearing the record -/

/-- The STATUS.ERRCODE value of an error (60_exceptions.md R301). -/
def ErrorCode.code : ErrorCode → BitVec 4
  | .illegalCmd => 1
  | .illegalOperand => 2
  | .badKeylen => 3
  | .notConfigured => 4
  | .ctrOverflow => 5
  | .busy => 6
  | .access => 7

/-- The access word that ERRINFO holds for an error of a host access: OFF [7:0], SZ [9:8], W [10] (60_exceptions.md R303). -/
def accessWord (a : Access) : Word := (BitVec.ofBool a.isWrite ++ a.size.code ++ a.off).setWidth 32

/-- `raise E(info)`: the first error since ERR was last cleared is recorded, a later one changes nothing
(60_exceptions.md R302). -/
def raise (e : ErrorCode) (info : Word) (s : State) : State :=
  if s.ERR then s else { s with ERR := true, ERRCODE := e.code, ERRINFO := info }

/-- The "trap return": the error record is cleared in one step (60_exceptions.md R304). -/
def clearErr (s : State) : State := { s with ERR := false, ERRCODE := 0, ERRINFO := 0 }

/-- A STATUS write: bit 1 clears DONE, bit 2 clears the error record, every other bit is ignored (20_memory.md R65). -/
def writeStatus (w : Word) (s : State) : State :=
  let s := if w.getLsbD 1 then { s with DONE := false } else s
  if w.getLsbD 2 then clearErr s else s

/-! ## The end of an access -/

/-- A read ends and returns a value. -/
def respond (w : Word) (s : State) : State := { s with rdata := some w }

/-- A write ends; nothing is returned (20_memory.md R60). -/
def endWrite (s : State) : State := { s with rdata := none }

/-- An access is refused: it records its error, a read returns 0, and there is no other effect (20_memory.md R60;
60_exceptions.md R300). -/
def refuse (e : ErrorCode) (a : Access) (s : State) : State :=
  let s := raise e (accessWord a) s
  if a.isWrite then endWrite s else respond 0 s

/-- A read of S in the BUSY window returns a `draw()`, truncated to the access's size (20_memory.md R60, R68(c)); the
counter advances, so the next draw is another free value (log 4). -/
def respondDraw (n : Size) (s : State) : State :=
  respond (truncateTo n (Config.freeWord s.draws)) { s with draws := s.draws + 1 }

/-! ## Reading and writing the registers -/

/-- The Word a register or window word reads as (20_memory.md R61, R63). CMD, KS_DATA and the reserved offsets have no
storage (10_state.md R28, R42; 20_memory.md R55), and no access reads them through this function. -/
def readWord : Reg → State → Word
  | .id, _ => Config.idValue
  | .ctrl, s => ctrlWord s
  | .cmd, _ => 0
  | .status, s => statusWord s
  | .errinfo, s => s.ERRINFO
  | .s i, s => readS i s
  | .key j, s => s.KEY.get j
  | .nonce j, s => s.NONCE.get j
  | .blkctr h, s => half s.BLKCTR h
  | .ksblk h, s => half s.KSBLK h
  | .ksoff, s => s.KSOFF.setWidth 32
  | .ksData, _ => 0
  | .reserved, _ => 0

/-- `ReadReg(reg, off, n)` of a register with no read side effect: the Word, or its byte `off mod 4` (20_memory.md R61). -/
def readReg (reg : Reg) (off : BitVec 8) (n : Size) (s : State) : Word :=
  let w := readWord reg s
  if n = .one then (lane w (off.toNat % 4)).setWidth 32 else w

/-- The Word a write of n bytes leaves in a data window: all of it, or the old one with byte `off mod 4` replaced
(20_memory.md R62). -/
def mergeWrite (off : BitVec 8) (n : Size) (wdata old : Word) : Word :=
  if n = .one then withLane old (off.toNat % 4) (wdata.setWidth 8) else wdata

/-- `WriteReg(reg, off, n, wdata)` with the side effects of 20_memory.md R58. ID, ERRINFO, KS_DATA and the reserved offsets
take no write: an access to one is refused before. -/
def writeReg (reg : Reg) (off : BitVec 8) (n : Size) (wdata : Word) (s : State) : State :=
  let w := mergeWrite off n wdata (readWord reg s)
  match reg with
  | .id => s
  | .ctrl => writeCtrl wdata s
  | .cmd => acceptCommand wdata s
  | .status => writeStatus wdata s
  | .errinfo => s
  | .s i => writeS i w s
  | .key j => { s with KEY := s.KEY.set j.val w j.isLt, CONFIGURED := false }
  | .nonce j => { s with NONCE := s.NONCE.set j.val w j.isLt, CONFIGURED := false }
  | .blkctr h => { s with BLKCTR := withHalf s.BLKCTR h w }
  | .ksblk h => { s with KSBLK := withHalf s.KSBLK h w, KSEND := false }
  | .ksoff => writeKsoff wdata s
  | .ksData => s
  | .reserved => s

end Sys2Proof.Machine
end

