-- ==== Sys2Proof/Machine/Control.lean ====
section
/-! DEFINITION. NOP, and the completion of a command that fails its check (40_command_control.md R102, R103, R105). -/

namespace Sys2Proof.Machine

/-- A command fails a check: the error is recorded with the whole command word, the command completes, and nothing else
changes (R102, R103; 60_exceptions.md R303). -/
def failCommand (e : ErrorCode) (s : State) : State := complete (raise e s.CMDQ s)

/-- NOP (R105). -/
def execNop (s : State) : Host.Outcome State Fault Refusal := .next (complete s)

end Sys2Proof.Machine
end

