-- ==== Sys2Proof/Machine/WordArith.lean ====
section
/-! DEFINITION. Word arithmetic and its commands (41_word_arithmetic.md). -/

namespace Sys2Proof.Machine

/-- `add32(a, b) = (a + b) mod 2^32` (R120). -/
def add32 (a b : Word) : Word := a + b

/-- `xor32(a, b)` (R121). -/
def xor32 (a b : Word) : Word := a ^^^ b

/-- `rotl32(v, n) = ((v << n) or (v >> (32 − n))) mod 2^32` for 0 ≤ n < 32 (R122). -/
def rotl32 (v : Word) (n : Amount) : Word := (v <<< n.val) ||| (v >>> (32 - n.val))

/-- ADD32 (R124). -/
def execAdd32 (ra rb rd : WordIndex) (s : State) : Host.Outcome State Fault Refusal :=
  .next (complete (writeS rd (add32 (readS ra s) (readS rb s)) s))

/-- XOR32 (R125). -/
def execXor32 (ra rb rd : WordIndex) (s : State) : Host.Outcome State Fault Refusal :=
  .next (complete (writeS rd (xor32 (readS ra s) (readS rb s)) s))

/-- ROTL32 (R126). -/
def execRotl32 (ra : WordIndex) (sh : Amount) (rd : WordIndex) (s : State) : Host.Outcome State Fault Refusal :=
  .next (complete (writeS rd (rotl32 (readS ra s) sh) s))

end Sys2Proof.Machine
end

