-- ==== Sys2Proof/Machine/Permutation.lean ====
section
/-! DEFINITION. The permutation network and its commands (42_permutation.md). -/

namespace Sys2Proof.Machine

/-- The four results of a quarter-round. -/
structure Quad where
  z0 : Word
  z1 : Word
  z2 : Word
  z3 : Word
  deriving DecidableEq, Repr

/-- `quarterRound(y0, y1, y2, y3)`, in exactly this order (R140). -/
def quarterRound (y0 y1 y2 y3 : Word) : Quad :=
  let z1 := xor32 y1 (rotl32 (add32 y0 y3) 7)
  let z2 := xor32 y2 (rotl32 (add32 z1 y0) 9)
  let z3 := xor32 y3 (rotl32 (add32 z2 z1) 13)
  let z0 := xor32 y0 (rotl32 (add32 z3 z2) 18)
  ⟨z0, z1, z2, z3⟩

/-- `rowRound`: row i's inputs are read starting at column i, and written back where they were read (R142's table). -/
def rowRound (y : StateVec) : StateVec :=
  let r0 := quarterRound y[0] y[1] y[2] y[3]
  let r1 := quarterRound y[5] y[6] y[7] y[4]
  let r2 := quarterRound y[10] y[11] y[8] y[9]
  let r3 := quarterRound y[15] y[12] y[13] y[14]
  #v[r0.z0, r0.z1, r0.z2, r0.z3,
     r1.z3, r1.z0, r1.z1, r1.z2,
     r2.z2, r2.z3, r2.z0, r2.z1,
     r3.z1, r3.z2, r3.z3, r3.z0]

/-- `columnRound`: column c's inputs are read from row c down with wraparound, and written back where they were read
(R144's table). -/
def columnRound (y : StateVec) : StateVec :=
  let c0 := quarterRound y[0] y[4] y[8] y[12]
  let c1 := quarterRound y[5] y[9] y[13] y[1]
  let c2 := quarterRound y[10] y[14] y[2] y[6]
  let c3 := quarterRound y[15] y[3] y[7] y[11]
  #v[c0.z0, c1.z3, c2.z2, c3.z1,
     c0.z1, c1.z0, c2.z3, c3.z2,
     c0.z2, c1.z1, c2.z0, c3.z3,
     c0.z3, c1.z2, c2.z1, c3.z0]

/-- `doubleRound`: the column-round first, then the row-round (R146). -/
def doubleRound (y : StateVec) : StateVec := rowRound (columnRound y)

/-- `doubleRound` applied n times in sequence. -/
def doubleRounds : Nat → StateVec → StateVec
  | 0, y => y
  | n + 1, y => doubleRounds n (doubleRound y)

/-- `permute`: exactly 10 doubleRounds, no feed-forward (R148). -/
def permute (y : StateVec) : StateVec := doubleRounds Config.doubleRoundCount y

/-- The effect of QROUND on S, whose four indices are distinct (R141). -/
def quarterRoundAt (ra rb rc rd : WordIndex) (s : State) : State :=
  let q := quarterRound (readS ra s) (readS rb s) (readS rc s) (readS rd s)
  writeS rd q.z3 (writeS rc q.z2 (writeS rb q.z1 (writeS ra q.z0 s)))

/-- QROUND (R141), with its operand check (40_command_control.md R102). -/
def execQround (ra rb rc rd : WordIndex) (s : State) : Host.Outcome State Fault Refusal :=
  if distinctIndices ra rb rc rd then .next (complete (quarterRoundAt ra rb rc rd s))
  else .next (failCommand .illegalOperand s)

/-- ROWROUND (R143). -/
def execRowround (s : State) : Host.Outcome State Fault Refusal := .next (complete (writeAllS (rowRound s.S) s))

/-- COLROUND (R145). -/
def execColround (s : State) : Host.Outcome State Fault Refusal := .next (complete (writeAllS (columnRound s.S) s))

/-- DBLROUND (R147). -/
def execDblround (s : State) : Host.Outcome State Fault Refusal := .next (complete (writeAllS (doubleRound s.S) s))

/-- PERMUTE (R149). -/
def execPermute (s : State) : Host.Outcome State Fault Refusal := .next (complete (writeAllS (permute s.S) s))

end Sys2Proof.Machine
end

