-- ==== Sys2Proof/Machine/BlockFunction.lean ====
section
/-! DEFINITION. The block function with feed-forward, and HASH (43_block_function.md). -/

namespace Sys2Proof.Machine

/-- `hash(x)`: the permuted copy added to the input, word by word (R174). -/
def hash (x : StateVec) : StateVec :=
  let z := permute x
  stateVecOf fun i => add32 (x.get i) (z.get i)

/-- `generateBlock(B)`: the block function on 64 bytes (R174). -/
def generateBlock (b : Vector Byte 64) : Vector Byte 64 := bytes (hash (words b))

/-- HASH (R175). -/
def execHash (s : State) : Host.Outcome State Fault Refusal := .next (complete (writeAllS (hash s.S) s))

end Sys2Proof.Machine
end

