-- ==== Sys2Proof/Machine/Keystream.lean ====
section
/-! DEFINITION. Key expansion, block generation and the keystream port (44_keystream.md). -/

namespace Sys2Proof.Machine

/-! ## Key expansion -/

/-- The key mode CTRL.KEYLEN selects (R191). -/
def keyMode (keylen : BitVec 8) : Config.KeyMode :=
  if keylen = 32 then .twoKey
  else if keylen = 16 then .oneKey
  else Config.undefinedKeyMode keylen

/-- The constants C[0..3] of a mode (R191). -/
def modeConstants (cs : Config.Constants) : Config.KeyMode → Vector Word 4
  | .oneKey => cs.oneKey
  | .twoKey => cs.twoKey

/-- K0[0..3] = KEY[0..3] (R192). -/
def key0Words (key : Vector Word 8) : Vector Word 4 := #v[key[0], key[1], key[2], key[3]]

/-- K1[0..3]: KEY[4..7] in two-key mode, KEY[0..3] in one-key mode (R192). -/
def key1Words (key : Vector Word 8) : Config.KeyMode → Vector Word 4
  | .oneKey => key0Words key
  | .twoKey => #v[key[4], key[5], key[6], key[7]]

/-- `keyExpandWords(ctr)`: const0 | key0 | const1 | nonce | counter | const2 | (key1 or key0) | const3 (R193). -/
def keyExpandWords (cs : Config.Constants) (m : Config.KeyMode) (key : Vector Word 8) (nonce : Vector Word 2)
    (ctr : BitVec 64) : StateVec :=
  let con := modeConstants cs m
  let k0 := key0Words key
  let k1 := key1Words key m
  #v[con[0], k0[0], k0[1], k0[2],
     k0[3], con[1], nonce[0], nonce[1],
     half ctr 0, half ctr 1, con[2], k1[0],
     k1[1], k1[2], k1[3], con[3]]

/-- The input layout of the block at counter `ctr`, from the current registers and the block's constant table (R193). -/
def blockInput (ctr : BitVec 64) (s : State) : StateVec :=
  keyExpandWords s.constants (keyMode s.KEYLEN) s.KEY s.NONCE ctr

/-- `Block(c)`: the 64-byte keystream block at index c (R198). -/
def block (c : BitVec 64) (s : State) : Vector Byte 64 := bytes (hash (blockInput c s))

/-! ## Commands -/

/-- CONFIGURE (R194). -/
def execConfigure (s : State) : Host.Outcome State Fault Refusal :=
  if s.KEYLEN = 16 ∨ s.KEYLEN = 32 then
    .next (complete { s with CONFIGURED := true, KSBLK := 0, KSOFF := 0, KSEND := false })
  else .next (failCommand .badKeylen s)

/-- EXPAND (R195). -/
def execExpand (s : State) : Host.Outcome State Fault Refusal :=
  if s.CONFIGURED then .next (complete (writeAllS (blockInput s.BLKCTR s) s))
  else .next (failCommand .notConfigured s)

/-- GETBLOCK (R197). -/
def execGetblock (s : State) : Host.Outcome State Fault Refusal :=
  if s.CONFIGURED then .next (complete (writeAllS (hash (blockInput s.BLKCTR s)) s))
  else .next (failCommand .notConfigured s)

/-! ## The keystream port -/

/-- The byte position of the next stream byte, computed without bound (R200). -/
def streamPosition (s : State) : Nat := s.KSBLK.toNat * 64 + s.KSOFF.toNat

/-- The n stream bytes from byte `off` of block `blk` on (R199's loop). -/
def streamBytes (s : State) : Nat → BitVec 64 → BitVec 6 → List Byte
  | 0, _, _ => []
  | n + 1, blk, off =>
    (block blk s)[off.toNat] :: (if off = 63 then streamBytes s n (blk + 1) 0 else streamBytes s n blk (off + 1))

/-- Whether n more bytes would go past the end of the stream (R199, R201). -/
def pastEnd (n : Nat) (s : State) : Bool :=
  s.KSEND || (s.KSBLK == BitVec.allOnes 64 && decide (64 < s.KSOFF.toNat + n))

/-- `Advance(n)` (R200). -/
def advance (n : Nat) (s : State) : State :=
  let p := streamPosition s + n
  if p = 2 ^ 70 then { s with KSBLK := BitVec.allOnes 64, KSOFF := 0, KSEND := true }
  else { s with KSBLK := BitVec.ofNat 64 (p / 64), KSOFF := BitVec.ofNat 6 (p % 64) }

/-- The value a KS_DATA read of n bytes returns: one byte, or four packed little-endian (R199). -/
def streamValue (n : Size) (s : State) : Word :=
  match streamBytes s n.toNat s.KSBLK s.KSOFF with
  | [b] => b.setWidth 32
  | [b0, b1, b2, b3] => pack b0 b1 b2 b3
  | _ => 0

/-- A KS_DATA read that passed the access and busy checks (R199): its own two checks, the bytes, the advance. -/
def readKs (a : Access) (s : State) : State :=
  if s.CONFIGURED = false then refuse .notConfigured a s
  else if pastEnd a.size.toNat s then refuse .ctrOverflow a s
  else respond (streamValue a.size s) (advance a.size.toNat s)

end Sys2Proof.Machine
end

