-- ==== Sys2Proof/Machine/Dispatch.lean ====
section
/-! DEFINITION. The meaning of each command: its checks, its effect and its completion, one arm per constructor. -/

namespace Sys2Proof.Machine

def exec (i : Instr) (s : State) : Host.Outcome State Fault Refusal :=
  match i with
  | .nop => Sys2Proof.Machine.execNop s
  | .add32 ra rb rd => Sys2Proof.Machine.execAdd32 ra rb rd s
  | .xor32 ra rb rd => Sys2Proof.Machine.execXor32 ra rb rd s
  | .rotl32 ra sh rd => Sys2Proof.Machine.execRotl32 ra sh rd s
  | .qround ra rb rc rd => Sys2Proof.Machine.execQround ra rb rc rd s
  | .rowround => Sys2Proof.Machine.execRowround s
  | .colround => Sys2Proof.Machine.execColround s
  | .dblround => Sys2Proof.Machine.execDblround s
  | .permute => Sys2Proof.Machine.execPermute s
  | .hash => Sys2Proof.Machine.execHash s
  | .expand => Sys2Proof.Machine.execExpand s
  | .getblock => Sys2Proof.Machine.execGetblock s
  | .configure => Sys2Proof.Machine.execConfigure s

end Sys2Proof.Machine
end

