-- ==== Sys2Proof/Machine/Engine.lean ====
section
/-! DEFINITION. The ENGINE's completion step (40_command_control.md R101). -/

namespace Sys2Proof.Machine

/-- Completion of the latched command, enabled iff BUSY = 1: a word that is no command raises ILLEGAL_CMD with the word
(R102), a command has its meaning. -/
def engineStep (s : State) : Host.Outcome State Fault Refusal :=
  match decode s.CMDQ with
  | .ok i => exec i s
  | .error _ => .next (failCommand .illegalCmd s)

/-- The ENGINE is given a step: it completes the latched command, or, while BUSY = 0, has no step and nothing happens
(R101; 10_state.md R48(d)). DESIGN CHOICE, safe: log 2. -/
def engineMove (s : State) : Host.Outcome State Fault Refusal :=
  if s.BUSY then engineStep s else .next s

end Sys2Proof.Machine
end

