-- ==== Sys2Proof/Machine/HostPort.lean ====
section
/-! DEFINITION. The host access (20_memory.md R60) and the host-program syntax (30_encoding.md R90). -/

namespace Sys2Proof.Machine

/-- The access checks, step 1 of 20_memory.md R60 (R53–R56). They all raise ACCESS. -/
def accessRefused (a : Access) : Bool :=
  decide (a.size = .two)
    || decide (a.off.toNat % a.size.toNat ≠ 0)
    || decide (a.reg = .reserved)
    || (decide (a.size = .one) && a.reg.wordOnly)
    || (decide (a.size = .one) && decide (a.reg = .ksData) && decide (a.off ≠ 0xBC))
    || (a.isWrite && a.reg.readOnly)
    || (!a.isWrite && decide (a.reg = .cmd))

/-- The busy checks that raise BUSY, step 2 of 20_memory.md R60 (R68(a), (b)). -/
def busyRefused (a : Access) (s : State) : Bool :=
  s.BUSY && ((a.isWrite && decide (a.reg ≠ .status)) || (!a.isWrite && decide (a.reg = .ksData)))

/-- Step 3 of 20_memory.md R60: the access is performed. -/
def performAccess (a : Access) (s : State) : State :=
  match a with
  | .read off n =>
    if decodeOffset off = .ksData then readKs a s
    else respond (readReg (decodeOffset off) off n s) s
  | .write off n wdata => endWrite (writeReg (decodeOffset off) off n wdata s)

/-- One host access (20_memory.md R60). -/
def hostAccess (a : Access) (s : State) : State :=
  if accessRefused a then refuse .access a s
  else if busyRefused a s then refuse .busy a s
  else if s.BUSY && !a.isWrite && a.reg.isS then respondDraw a.size s
  else performAccess a s

/-! ## Host-program syntax (30_encoding.md R90) -/

/-- `WR32 off, v`. -/
def wr32 (off : BitVec 8) (v : Word) : Move := .host (.write off .four v)
/-- `WR8 off, v`. -/
def wr8 (off : BitVec 8) (v : Byte) : Move := .host (.write off .one (v.setWidth 32))
/-- `RD32 off`. -/
def rd32 (off : BitVec 8) : Move := .host (.read off .four)
/-- `RD8 off`. -/
def rd8 (off : BitVec 8) : Move := .host (.read off .one)
/-- `CMD <command word>`. -/
def cmdWord (c : Word) : Move := wr32 0x08 c
/-- `WRBYTES off, (b0, ..., bm)`. -/
def wrBytes : BitVec 8 → List Byte → List Move
  | _, [] => []
  | off, b :: bs => wr8 off b :: wrBytes (off + 1) bs
/-- `WAIT` in a run where the ENGINE's step comes after n polls: n reads of STATUS that still find BUSY = 1, the
completion, and the read that finds BUSY = 0 (R90; 40_command_control.md R106). -/
def waitFor (n : Nat) : List Move := List.replicate n (rd32 0x0C) ++ [.engine, rd32 0x0C]

end Sys2Proof.Machine
end

