-- ==== Sys2Proof/Machine/ResetInput.lean ====
section
/-! DEFINITION. The reset input (70_reset_and_hazards.md R400, R403). -/

namespace Sys2Proof.Machine

/-- The RESET step: every piece of the block's state goes to its reset value. The constant table is no state of the block
(44_keystream.md R190), and the moves still to come, what the host has read and the count of draws lie outside the block:
they stay. DEDUCED: log 6. -/
def resetStep (s : State) : State :=
  { State.resetWith s.constants with moves := s.moves, rdata := s.rdata, draws := s.draws }

end Sys2Proof.Machine
end

