-- ==== Sys2Proof/Machine/Step.lean ====
section
/-! DEFINITION. One step of one agent (00_scope.md R3): the next move of the schedule, and where a command word is placed. -/

namespace Sys2Proof.Machine

/-- The next move is taken off the schedule and made. With no move left, a latched command completes (the fairness of
40_command_control.md R106) and a quiescent block stays as it is (70_reset_and_hazards.md R414): log 2. -/
def step (s : State) : Host.Outcome State Fault Refusal :=
  match s.moves with
  | [] => engineMove s
  | .engine :: rest => engineMove { s with moves := rest }
  | .host a :: rest => .next (hostAccess a { s with moves := rest })
  | .reset :: rest => .next (resetStep { s with moves := rest })

/-- The state in which the command word w is the latched command, as its CMD write leaves it (40_command_control.md R100),
and the ENGINE moves next, so that the very next step completes it (log 3). -/
def State.withFetchWord (s : State) (nbits w : Nat) : State :=
  { acceptCommand (BitVec.ofNat 32 (w % 2 ^ nbits)) s with moves := .engine :: s.moves }

end Sys2Proof.Machine
end

