-- ==== Sys2Proof/Safety.lean ====
section
/-! DEFINITION. The terms the claims use: the invariant of 10_state.md R48, the check of 40_command_control.md R102 on the raw
command word, and the results the rules give, each written out field by field from the spec and apart from the meanings. -/

namespace Sys2Proof.Machine

/-! ## Invariant and quiescence -/

/-- The invariant of every reachable state: 10_state.md R48(a), (b), (c), and the codes that are ever raised
(60_exceptions.md R301). R48(d) is a fact about `engineMove`. -/
abbrev Inv (s : State) : Prop :=
  (s.CONFIGURED = true → s.KEYLEN = 16 ∨ s.KEYLEN = 32)
    ∧ (s.ERR = false → s.ERRCODE = 0 ∧ s.ERRINFO = 0)
    ∧ (s.KSEND = true → s.KSBLK = BitVec.allOnes 64 ∧ s.KSOFF = 0)
    ∧ (s.ERR = true → 1 ≤ s.ERRCODE.toNat ∧ s.ERRCODE.toNat ≤ 7)

/-- No ENGINE step is enabled (70_reset_and_hazards.md R414). -/
abbrev Quiescent (s : State) : Prop := s.BUSY = false

/-! ## Command words -/

/-- The 4-bit field of a command word whose low bit is `lo`, as a word index. -/
def indexAt (w : Word) (lo : Nat) : WordIndex := ⟨w.toNat / 2 ^ lo % 16, Nat.mod_lt _ (by decide)⟩

/-- The 5-bit field of a command word whose low bit is `lo`, as a rotation amount. -/
def amountAt (w : Word) (lo : Nat) : Amount := ⟨w.toNat / 2 ^ lo % 32, Nat.mod_lt _ (by decide)⟩

/-- The 13 assigned OP values (30_encoding.md R83). -/
def assignedOps : List Nat := [0x00, 0x01, 0x02, 0x03, 0x08, 0x09, 0x0A, 0x0B, 0x0C, 0x10, 0x11, 0x12, 0x18]

/-- `Check(c)` of 40_command_control.md R102 on the raw word: the code of the error it raises, none for ok. -/
def commandCheck (w : Word) (s : State) : Option (BitVec 4) :=
  if w.toNat / 2 ^ 6 % 4 ≠ 0 ∨ w.toNat / 2 ^ 29 ≠ 0 then some 1
  else if w.toNat % 64 ∉ assignedOps then some 1
  else if w.toNat % 64 = 0x08 ∧ ¬ [indexAt w 8, indexAt w 12, indexAt w 16, indexAt w 20].Nodup then some 2
  else if (w.toNat % 64 = 0x11 ∨ w.toNat % 64 = 0x12) ∧ s.CONFIGURED = false then some 4
  else if w.toNat % 64 = 0x18 ∧ s.KEYLEN ≠ 16 ∧ s.KEYLEN ≠ 32 then some 3
  else none

/-! ## Results, field by field -/

/-- After a command that fails with code k: the first-error record, BUSY and DONE, and nothing else
(40_command_control.md R101, R103; 60_exceptions.md R302, R303). -/
def failedCommand (k : BitVec 4) (s : State) : State :=
  { s with
    BUSY := false
    DONE := true
    ERR := true
    ERRCODE := if s.ERR then s.ERRCODE else k
    ERRINFO := if s.ERR then s.ERRINFO else s.CMDQ }

/-- The encoding clause of a command rule, and its ILLEGAL_CMD clause: under the mask 0xE00000FF the match value is `op`, and
such a word is the command `dec` makes of it; the same OP with a reserved bit set is no command, and completes with
ILLEGAL_CMD and no other effect (30_encoding.md R83, R84). -/
def EncodedAs (op : Word) (dec : Word → Instr) : Prop :=
  (∀ w : Word, w &&& 0xE00000FF = op → decode w = .ok (dec w))
    ∧ ∀ w : Word, w &&& 0x3F = op → w &&& 0xE00000C0 ≠ 0 →
        decode w = .error .reservedBits
          ∧ ∀ s : State, s.BUSY = true → s.CMDQ = w → engineMove s = .next (failedCommand 1 s)

/-- The access word of 60_exceptions.md R303: OFF in [7:0], SZ in [9:8], W in [10]. -/
def errorInfoOf (a : Access) : Word :=
  match a with
  | .read off n => BitVec.ofNat 32 (off.toNat + 256 * (n.toNat / 2))
  | .write off n _ => BitVec.ofNat 32 (off.toNat + 256 * (n.toNat / 2) + 1024)

/-- After an access that is refused with code k: the first-error record, a read returns 0, and nothing else
(20_memory.md R60; 60_exceptions.md R302, R303). -/
def refusedAccess (k : BitVec 4) (a : Access) (s : State) : State :=
  { s with
    ERR := true
    ERRCODE := if s.ERR then s.ERRCODE else k
    ERRINFO := if s.ERR then s.ERRINFO else errorInfoOf a
    rdata := if a.isWrite then none else some 0 }

/-! ## Data windows -/

/-- The offset of a word of a data window (20_memory.md R51, R61), none for a register of another class. -/
def windowOffset : Reg → Option (BitVec 8)
  | .s i => some (BitVec.ofNat 8 (0x40 + 4 * i.val))
  | .key j => some (BitVec.ofNat 8 (0x80 + 4 * j.val))
  | .nonce j => some (BitVec.ofNat 8 (0xA0 + 4 * j.val))
  | .blkctr h => some (BitVec.ofNat 8 (0xA8 + 4 * h.val))
  | .ksblk h => some (BitVec.ofNat 8 (0xB0 + 4 * h.val))
  | .id => none
  | .ctrl => none
  | .cmd => none
  | .status => none
  | .errinfo => none
  | .ksoff => none
  | .ksData => none
  | .reserved => none

/-- The word of a data window (20_memory.md R61); 0 for a register of another class, where no claim uses it. -/
def windowWord : Reg → State → Word
  | .s i, s => s.S[i]
  | .key j, s => s.KEY[j]
  | .nonce j, s => s.NONCE[j]
  | .blkctr h, s => BitVec.ofNat 32 (s.BLKCTR.toNat / 2 ^ (32 * h.val))
  | .ksblk h, s => BitVec.ofNat 32 (s.KSBLK.toNat / 2 ^ (32 * h.val))
  | .id, _ => 0
  | .ctrl, _ => 0
  | .cmd, _ => 0
  | .status, _ => 0
  | .errinfo, _ => 0
  | .ksoff, _ => 0
  | .ksData, _ => 0
  | .reserved, _ => 0

/-- A 64-bit register with its low (h = 0) or high (h = 1) word replaced. -/
def replaceHalf (v : BitVec 64) (h : Fin 2) (w : Word) : BitVec 64 :=
  if h = 0 then BitVec.ofNat 64 (v.toNat / 2 ^ 32 * 2 ^ 32 + w.toNat)
  else BitVec.ofNat 64 (w.toNat * 2 ^ 32 + v.toNat % 2 ^ 32)

/-- An accepted write leaves the word w in a data window, with the side effects of 20_memory.md R58. -/
def windowStore (r : Reg) (w : Word) (s : State) : State :=
  match r with
  | .s i => { s with S := s.S.set i.val w i.isLt, rdata := none }
  | .key j => { s with KEY := s.KEY.set j.val w j.isLt, CONFIGURED := false, rdata := none }
  | .nonce j => { s with NONCE := s.NONCE.set j.val w j.isLt, CONFIGURED := false, rdata := none }
  | .blkctr h => { s with BLKCTR := replaceHalf s.BLKCTR h w, rdata := none }
  | .ksblk h => { s with KSBLK := replaceHalf s.KSBLK h w, KSEND := false, rdata := none }
  | .id => s
  | .ctrl => s
  | .cmd => s
  | .status => s
  | .errinfo => s
  | .ksoff => s
  | .ksData => s
  | .reserved => s

/-- Byte k of a Word. -/
def byteOf (w : Word) (k : Nat) : Byte := BitVec.ofNat 8 (w.toNat / 256 ^ k)

/-! ## The keystream -/

/-- The byte of the keystream at position p: byte `p mod 64` of the block at counter `p div 64` (44_keystream.md R202). -/
def keystreamByte (s : State) (p : Nat) : Byte :=
  (block (BitVec.ofNat 64 (p / 64)) s)[p % 64]'(Nat.mod_lt _ (by decide))

/-- What a stream read of one byte, or of four bytes packed little-endian, returns at position p (44_keystream.md R199). -/
def keystreamValue (n : Size) (s : State) (p : Nat) : Word :=
  if n = .one then (keystreamByte s p).setWidth 32
  else pack (keystreamByte s p) (keystreamByte s (p + 1)) (keystreamByte s (p + 2)) (keystreamByte s (p + 3))

/-! ## The matrix positions of the round functions -/

/-- `p_k(i) = 4i + ((i + k) mod 4)` (42_permutation.md R142). -/
def rowPosition (i k : Fin 4) : WordIndex := ⟨4 * i.val + (i.val + k.val) % 4, by omega⟩

/-- `q_k(c) = 4·((c + k) mod 4) + c` (42_permutation.md R144). -/
def columnPosition (j k : Fin 4) : WordIndex := ⟨4 * ((j.val + k.val) % 4) + j.val, by omega⟩

/-! ## Runs -/

/-- Commands completed one after another. -/
def runCommands : List Instr → State → Host.Outcome State Fault Refusal
  | [], s => .next s
  | i :: rest, s =>
    match exec i s with
    | .next t => runCommands rest t
    | .fault r => .fault r
    | .refused r => .refused r

/-- n steps of the machine. -/
def runSteps (n : Nat) (s : State) : Host.Outcome State Fault Refusal := Host.Core.run Sys2Proof.core n s

/-- Word writes at successive word offsets. -/
def wrWords : BitVec 8 → List Word → List Move
  | _, [] => []
  | off, w :: ws => wr32 off w :: wrWords (off + 4) ws

/-- A run of KS_DATA reads of the given sizes. -/
def streamReads (sizes : List Size) : List Move := sizes.map fun n => .host (.read 0xBC n)

end Sys2Proof.Machine
end

