-- ==== Sys2Proof/Certificates/Slice0/Obligations.lean ====
section
/-! DEFINITION. The statements for the provers, each a proposition about the machine. -/

open Sys2Proof Sys2Proof.Machine

/-! ## Encoding (30_encoding.md) -/

/-- R81, R91: no bit of an encoding is dropped, for any command and any operands. -/
def Obligations.DecodeOfEncode : Prop :=
  ∀ i : Instr, decode (encode i) = .ok i

/-- R83, R84, R86: a word decodes to a command exactly when the bits that command uses are its encoding; every other bit
is ignored. -/
def Obligations.DecodeReadsExactlyTheUsedBits : Prop :=
  ∀ (w : Word) (i : Instr), decode w = .ok i ↔ w &&& usedBits i = encode i

/-- R91: the encoding function, with 0 in every ignored field, and its examples. -/
def Obligations.EncodeFollowsTheEncFormula : Prop :=
  (∀ ra rb rd : WordIndex,
      (encode (.add32 ra rb rd)).toNat = 0x01 + ra * 2 ^ 8 + rb * 2 ^ 12 + rd * 2 ^ 20
        ∧ (encode (.xor32 ra rb rd)).toNat = 0x02 + ra * 2 ^ 8 + rb * 2 ^ 12 + rd * 2 ^ 20)
    ∧ (∀ (ra rd : WordIndex) (sh : Amount),
        (encode (.rotl32 ra sh rd)).toNat = 0x03 + ra * 2 ^ 8 + rd * 2 ^ 20 + sh * 2 ^ 24)
    ∧ (∀ ra rb rc rd : WordIndex,
        (encode (.qround ra rb rc rd)).toNat = 0x08 + ra * 2 ^ 8 + rb * 2 ^ 12 + rc * 2 ^ 16 + rd * 2 ^ 20)
    ∧ encode .nop = 0x00 ∧ encode .rowround = 0x09 ∧ encode .colround = 0x0A ∧ encode .dblround = 0x0B
    ∧ encode .permute = 0x0C ∧ encode .hash = 0x10 ∧ encode .expand = 0x11 ∧ encode .getblock = 0x12
    ∧ encode .configure = 0x18
    ∧ encode (.add32 0 3 4) = 0x00403001 ∧ encode (.rotl32 4 7 4) = 0x07400403
    ∧ encode (.qround 5 9 13 1) = 0x001D9508

/-- R84, R85: a word with a reserved bit set, whatever its OP, and a word with one of the 40 unassigned OPs complete with
ILLEGAL_CMD, ERRINFO = the word, and no other effect. -/
def Obligations.IllegalWordsOnlyRecordTheError : Prop :=
  (∀ s : State, s.BUSY = true → s.CMDQ &&& 0xE00000C0 ≠ 0 → engineMove s = .next (failedCommand 1 s))
    ∧ ∀ (s : State) (op : Nat), s.BUSY = true → s.CMDQ.toNat % 64 = op →
        (0x04 ≤ op ∧ op ≤ 0x07 ∨ 0x0D ≤ op ∧ op ≤ 0x0F ∨ 0x13 ≤ op ∧ op ≤ 0x17 ∨ 0x19 ≤ op ∧ op ≤ 0x3F) →
        engineMove s = .next (failedCommand 1 s)

/-- Words written out from R81's fields and R91's examples decode to the commands they stand for. -/
def Obligations.DecodeOfWrittenOutWords : Prop :=
  decode 0x00000000 = .ok .nop
    ∧ decode 0x00403001 = .ok (.add32 0 3 4)
    ∧ decode 0x00001002 = .ok (.xor32 0 1 0)
    ∧ decode 0x07400403 = .ok (.rotl32 4 7 4)
    ∧ decode 0x001D9508 = .ok (.qround 5 9 13 1)
    ∧ decode 0x00000010 = .ok .hash
    ∧ decode 0x00000018 = .ok .configure
    ∧ decode 0x00000041 = .error .reservedBits
    ∧ decode 0x0000003F = .error .unassignedOpcode

/-- R101: the ENGINE's step completes the command that CMDQ decodes to, and with BUSY = 0 there is no such step; a HOST step
is one access. The schedule `moves` around them, and the completion when the schedule is used up, are the model's
(logs 1, 2). -/
def Obligations.StepRunsTheDecodedCommand : Prop :=
  (∀ (s : State) (i : Instr) (rest : List Move), s.BUSY = true → decode s.CMDQ = .ok i →
      s.moves = .engine :: rest → step s = exec i { s with moves := rest })
    ∧ (∀ (s : State) (i : Instr), s.BUSY = true → decode s.CMDQ = .ok i → s.moves = [] → step s = exec i s)
    ∧ (∀ (s : State) (rest : List Move), s.BUSY = false → s.moves = .engine :: rest →
        step s = .next { s with moves := rest })
    ∧ (∀ s : State, s.BUSY = false → s.moves = [] → step s = .next s)
    ∧ ∀ (s : State) (a : Access) (rest : List Move), s.moves = .host a :: rest →
        step s = .next (hostAccess a { s with moves := rest })

/-! ## Command life cycle (40_command_control.md) -/

/-- R102, R103, R306: the checks on the raw word, in their order; a failing check records its error and has no other
effect, and a word that passes is a command that performs, completes and records no error. -/
def Obligations.CommandChecksInOrder : Prop :=
  ∀ s : State, s.BUSY = true →
    (∀ k, commandCheck s.CMDQ s = some k → engineMove s = .next (failedCommand k s))
      ∧ (commandCheck s.CMDQ s = none →
          ∃ (i : Instr) (t : State), decode s.CMDQ = .ok i ∧ exec i s = .next t ∧ engineMove s = .next t
            ∧ t.ERR = s.ERR ∧ t.ERRCODE = s.ERRCODE ∧ t.ERRINFO = s.ERRINFO)

/-- R101: every completion, of a legal word or not, ends with BUSY = 0 and DONE = 1 and touches no register that no command
writes. That an ENGINE move while BUSY = 0, for which R101 gives no step, changes nothing is the model's choice (log 2). -/
def Obligations.EveryLatchedCommandCompletes : Prop :=
  (∀ s : State, s.BUSY = true →
      ∃ t : State, engineMove s = .next t ∧ t.BUSY = false ∧ t.DONE = true ∧ t.KEYLEN = s.KEYLEN ∧ t.IE = s.IE
        ∧ t.KEY = s.KEY ∧ t.NONCE = s.NONCE ∧ t.BLKCTR = s.BLKCTR ∧ t.CMDQ = s.CMDQ ∧ t.constants = s.constants
        ∧ t.moves = s.moves ∧ t.rdata = s.rdata ∧ t.draws = s.draws)
    ∧ ∀ s : State, s.BUSY = false → engineMove s = .next s

/-- R106: with no reset in the schedule, an accepted command completes once the schedule is used up at the latest. That
the schedule is finite and the ENGINE moves at its end is the model's form of the fairness (log 2). -/
def Obligations.AcceptedCommandCompletes : Prop :=
  ∀ s : State, s.BUSY = true → Move.reset ∉ s.moves →
    ∃ (n : Nat) (t : State), n ≤ s.moves.length + 1 ∧ runSteps n s = .next t ∧ t.BUSY = false ∧ t.DONE = true
      ∧ t.CMDQ = s.CMDQ

/-- R100: a word write to CMD while BUSY = 0 latches any word, unchecked, and does nothing else, so that an illegal word is
accepted and then fails at completion; while BUSY = 1 it is refused and CMDQ keeps its word. -/
def Obligations.CommandAcceptance : Prop :=
  ∀ (s : State) (w : Word),
    (s.BUSY = false →
        hostAccess (.write 0x08 .four w) s = { s with CMDQ := w, BUSY := true, DONE := false, rdata := none }
          ∧ (w &&& 0xE00000C0 ≠ 0 ∨ w.toNat % 64 ∉ assignedOps →
              engineMove (hostAccess (.write 0x08 .four w) s)
                = .next (failedCommand 1 { s with CMDQ := w, rdata := none })))
      ∧ (s.BUSY = true → hostAccess (.write 0x08 .four w) s = refusedAccess 6 (.write 0x08 .four w) s)

/-- R105: NOP, and its example: from idle, the CMD write and the WAIT leave S and every register unchanged but CMDQ, with
STATUS = 2 where no other STATUS bit was set. -/
def Obligations.NopCommand : Prop :=
  EncodedAs 0x00 (fun _ => .nop)
    ∧ (∀ s : State, exec .nop s = .next { s with BUSY := false, DONE := true })
    ∧ (∀ (s : State) (n : Nat) (rest : List Move), s.BUSY = false →
        s.moves = cmdWord (encode .nop) :: waitFor n ++ rest →
        ∃ t : State, runSteps (n + 3) s = .next t
          ∧ t = { s with CMDQ := 0, DONE := true, moves := rest, rdata := t.rdata }
          ∧ (s.ERR = false → s.ERRCODE = 0 → s.CONFIGURED = false → s.KSEND = false → t.rdata = some 0x00000002))
    ∧ assemble "NOP" [] = some .nop

/-! ## Word arithmetic (41_word_arithmetic.md) -/

/-- R120, R121: add32 and xor32, with their corner cases. -/
def Obligations.AddAndXorFunctions : Prop :=
  (∀ a b : Word, (add32 a b).toNat = (a.toNat + b.toNat) % 2 ^ 32)
    ∧ add32 0xFFFFFFFF 1 = 0 ∧ add32 0x80000000 0x80000000 = 0 ∧ add32 0xFFFFFFFF 0xFFFFFFFF = 0xFFFFFFFE
    ∧ (∀ a b : Word, add32 a b = add32 b a) ∧ (∀ a b d : Word, add32 (add32 a b) d = add32 a (add32 b d))
    ∧ (∀ a : Word, add32 a 0 = a)
    ∧ (∀ (a b : Word) (i : Fin 32), (xor32 a b).getLsbD i = true ↔ a.getLsbD i ≠ b.getLsbD i)
    ∧ (∀ a : Word, xor32 a a = 0) ∧ ∀ a : Word, xor32 a 0 = a

/-- R122: rotl32 by the document's formula on unbounded shifts, bit by bit, and the examples. -/
def Obligations.RotlFormula : Prop :=
  (∀ (v : Word) (n : Amount),
      (rotl32 v n).toNat = ((v.toNat <<< n.val) ||| (v.toNat >>> (32 - n.val))) % 2 ^ 32
        ∧ ∀ i : Fin 32, (rotl32 v n).getLsbD i = v.getLsbD ((i.val + 32 - n.val) % 32))
    ∧ (∀ v : Word, rotl32 v 0 = v)
    ∧ rotl32 0x80000001 1 = 0x00000003 ∧ rotl32 0x00000001 31 = 0x80000000 ∧ rotl32 0x12345678 7 = 0x1A2B3C09

/-- R124: ADD32, for every operand, a destination that is also a source among them. -/
def Obligations.AddCommand : Prop :=
  EncodedAs 0x01 (fun w => .add32 (indexAt w 8) (indexAt w 12) (indexAt w 20))
    ∧ (∀ (ra rb rd : WordIndex) (s : State), exec (.add32 ra rb rd) s = .next
        { s with
          S := s.S.set rd.val (BitVec.ofNat 32 (s.S[ra].toNat + s.S[rb].toNat)) rd.isLt
          BUSY := false
          DONE := true })
    ∧ (∀ a b d : WordIndex, assemble "ADD32" [.word d, .word a, .word b] = some (.add32 a b d))
    ∧ ∀ s : State, s.S[0] = 0xFFFFFFFF → s.S[1] = 0x00000001 → decode 0x00201001 = .ok (.add32 0 1 2)
        ∧ ∃ t : State, exec (.add32 0 1 2) s = .next t ∧ t.S[2] = 0x00000000

/-- R125: XOR32, for every operand. -/
def Obligations.XorCommand : Prop :=
  EncodedAs 0x02 (fun w => .xor32 (indexAt w 8) (indexAt w 12) (indexAt w 20))
    ∧ (∀ (ra rb rd : WordIndex) (s : State), exec (.xor32 ra rb rd) s = .next
        { s with
          S := s.S.set rd.val (BitVec.ofNat 32 (s.S[ra].toNat ^^^ s.S[rb].toNat)) rd.isLt
          BUSY := false
          DONE := true })
    ∧ (∀ a b d : WordIndex, assemble "XOR32" [.word d, .word a, .word b] = some (.xor32 a b d))
    ∧ ∀ s : State, s.S[0] = 0xFFFF0000 → s.S[1] = 0x0F0F0F0F → decode 0x00001002 = .ok (.xor32 0 1 0)
        ∧ ∃ t : State, exec (.xor32 0 1 0) s = .next t ∧ t.S[0] = 0xF0F00F0F

/-- R126: ROTL32, for every operand and amount; SH = 0 copies, and an amount of 32 sets a reserved bit. -/
def Obligations.RotlCommand : Prop :=
  EncodedAs 0x03 (fun w => .rotl32 (indexAt w 8) (amountAt w 24) (indexAt w 20))
    ∧ (∀ (ra rd : WordIndex) (sh : Amount) (s : State), exec (.rotl32 ra sh rd) s = .next
        { s with
          S := s.S.set rd.val (s.S[ra].rotateLeft sh.val) rd.isLt
          BUSY := false
          DONE := true })
    ∧ (∀ (ra rd : WordIndex) (s : State), exec (.rotl32 ra 0 rd) s = .next
        { s with S := s.S.set rd.val s.S[ra] rd.isLt, BUSY := false, DONE := true })
    ∧ (∀ (ra rd : WordIndex) (s : State), exec (.rotl32 ra 31 rd) s = .next
        { s with S := s.S.set rd.val (s.S[ra].rotateRight 1) rd.isLt, BUSY := false, DONE := true })
    ∧ (∀ (a d : WordIndex) (n : Amount), assemble "ROTL32" [.word d, .word a, .amount n] = some (.rotl32 a n d))
    ∧ decode 0x20400403 = .error .reservedBits
    ∧ ∀ s : State, s.S[4] = 0x00000001 → decode 0x07400403 = .ok (.rotl32 4 7 4)
        ∧ ∃ t : State, exec (.rotl32 4 7 4) s = .next t ∧ t.S[4] = 0x00000080

/-- R127, and the expansions of R89. -/
def Obligations.PseudoInstructionsCompute : Prop :=
  (∀ (d a : WordIndex) (s : State), exec (mov32 d a) s = .next
      { s with S := s.S.set d.val s.S[a] d.isLt, BUSY := false, DONE := true })
    ∧ (∀ (d : WordIndex) (s : State), exec (clr32 d) s = .next
        { s with S := s.S.set d.val 0 d.isLt, BUSY := false, DONE := true })
    ∧ (∀ (d a : WordIndex) (s : State), exec (dbl32 d a) s = .next
        { s with S := s.S.set d.val (BitVec.ofNat 32 (2 * s.S[a].toNat)) d.isLt, BUSY := false, DONE := true })
    ∧ ([0, 1, 2, 3].map qrcol = [.qround 0 4 8 12, .qround 5 9 13 1, .qround 10 14 2 6, .qround 15 3 7 11])
    ∧ ([0, 1, 2, 3].map qrrow = [.qround 0 1 2 3, .qround 5 6 7 4, .qround 10 11 8 9, .qround 15 12 13 14])

/-! ## Permutation network (42_permutation.md) -/

/-- R140, R141: the four equations of the quarter-round and its examples, QROUND on distinct indices, and its error on a
repeated one. -/
def Obligations.QroundCommand : Prop :=
  (∀ y0 y1 y2 y3 : Word,
      (quarterRound y0 y1 y2 y3).z1 = y1 ^^^ (y0 + y3).rotateLeft 7
        ∧ (quarterRound y0 y1 y2 y3).z2 = y2 ^^^ ((quarterRound y0 y1 y2 y3).z1 + y0).rotateLeft 9
        ∧ (quarterRound y0 y1 y2 y3).z3
          = y3 ^^^ ((quarterRound y0 y1 y2 y3).z2 + (quarterRound y0 y1 y2 y3).z1).rotateLeft 13
        ∧ (quarterRound y0 y1 y2 y3).z0
          = y0 ^^^ ((quarterRound y0 y1 y2 y3).z3 + (quarterRound y0 y1 y2 y3).z2).rotateLeft 18)
    ∧ quarterRound 0 0 0 0 = ⟨0, 0, 0, 0⟩
    ∧ quarterRound 1 0 0 0 = ⟨0x08008145, 0x00000080, 0x00010200, 0x20500000⟩
    ∧ EncodedAs 0x08 (fun w => .qround (indexAt w 8) (indexAt w 12) (indexAt w 16) (indexAt w 20))
    ∧ (∀ (ra rb rc rd : WordIndex) (s : State), [ra, rb, rc, rd].Nodup →
        ∃ t : StateVec, exec (.qround ra rb rc rd) s = .next { s with S := t, BUSY := false, DONE := true }
          ∧ quarterRound s.S[ra] s.S[rb] s.S[rc] s.S[rd] = ⟨t[ra], t[rb], t[rc], t[rd]⟩
          ∧ ∀ j : WordIndex, j ∉ [ra, rb, rc, rd] → t[j] = s.S[j])
    ∧ (∀ (ra rb rc rd : WordIndex) (s : State), ¬ [ra, rb, rc, rd].Nodup →
        exec (.qround ra rb rc rd) s = .next (failedCommand 2 s))
    ∧ (∀ a b c d : WordIndex, assemble "QROUND" [.word a, .word b, .word c, .word d] = some (.qround a b c d))
    ∧ ∀ s : State, s.S[0] = 1 → s.S[1] = 0 → s.S[2] = 0 → s.S[3] = 0 → decode 0x00321008 = .ok (.qround 0 1 2 3)
        ∧ ∃ t : State, exec (.qround 0 1 2 3) s = .next t ∧ t.S[0] = 0x08008145 ∧ t.S[1] = 0x00000080
            ∧ t.S[2] = 0x00010200 ∧ t.S[3] = 0x20500000

/-- R142: rowRound by its positions, each written exactly once, and the example. -/
def Obligations.RowRoundPositions : Prop :=
  (∀ (y : StateVec) (i : Fin 4),
      quarterRound y[rowPosition i 0] y[rowPosition i 1] y[rowPosition i 2] y[rowPosition i 3]
        = ⟨(rowRound y)[rowPosition i 0], (rowRound y)[rowPosition i 1], (rowRound y)[rowPosition i 2],
            (rowRound y)[rowPosition i 3]⟩)
    ∧ (∀ j : WordIndex, ∃! p : Fin 4 × Fin 4, rowPosition p.1 p.2 = j)
    ∧ rowRound #v[1, 0, 0, 0, 1, 0, 0, 0, 1, 0, 0, 0, 1, 0, 0, 0]
        = #v[0x08008145, 0x00000080, 0x00010200, 0x20500000, 0x20100001, 0x00048044, 0x00000080, 0x00010000,
             0x00000001, 0x00002000, 0x80040000, 0x00000000, 0x00000001, 0x00000200, 0x00402000, 0x88000100]

/-- R144: columnRound by its positions, and the example. -/
def Obligations.ColumnRoundPositions : Prop :=
  (∀ (y : StateVec) (j : Fin 4),
      quarterRound y[columnPosition j 0] y[columnPosition j 1] y[columnPosition j 2] y[columnPosition j 3]
        = ⟨(columnRound y)[columnPosition j 0], (columnRound y)[columnPosition j 1],
            (columnRound y)[columnPosition j 2], (columnRound y)[columnPosition j 3]⟩)
    ∧ (∀ i : WordIndex, ∃! p : Fin 4 × Fin 4, columnPosition p.1 p.2 = i)
    ∧ columnRound #v[1, 0, 0, 0, 1, 0, 0, 0, 1, 0, 0, 0, 1, 0, 0, 0]
        = #v[0x10090288, 0, 0, 0, 0x00000101, 0, 0, 0, 0x00020401, 0, 0, 0, 0x40A04001, 0, 0, 0]

/-- R143: ROWROUND; it equals the four QRROW commands in any order, and fixes the zero state; the example of R142. -/
def Obligations.RowroundCommand : Prop :=
  EncodedAs 0x09 (fun _ => .rowround)
    ∧ (∀ s : State, exec .rowround s = .next { s with S := rowRound s.S, BUSY := false, DONE := true })
    ∧ rowRound State.reset.S = State.reset.S
    ∧ (∀ (s : State) (order : List (Fin 4)), order.Perm [0, 1, 2, 3] →
        runCommands (order.map qrrow) s = exec .rowround s)
    ∧ assemble "ROWROUND" [] = some .rowround
    ∧ ∀ s : State, s.S = #v[1, 0, 0, 0, 1, 0, 0, 0, 1, 0, 0, 0, 1, 0, 0, 0] →
        ∃ t : State, exec .rowround s = .next t
          ∧ t.S = #v[0x08008145, 0x00000080, 0x00010200, 0x20500000, 0x20100001, 0x00048044, 0x00000080, 0x00010000,
                     0x00000001, 0x00002000, 0x80040000, 0x00000000, 0x00000001, 0x00000200, 0x00402000, 0x88000100]

/-- R145: COLROUND; it equals the four QRCOL commands in any order, and fixes the zero state; the example of R144. -/
def Obligations.ColroundCommand : Prop :=
  EncodedAs 0x0A (fun _ => .colround)
    ∧ (∀ s : State, exec .colround s = .next { s with S := columnRound s.S, BUSY := false, DONE := true })
    ∧ columnRound State.reset.S = State.reset.S
    ∧ (∀ (s : State) (order : List (Fin 4)), order.Perm [0, 1, 2, 3] →
        runCommands (order.map qrcol) s = exec .colround s)
    ∧ assemble "COLROUND" [] = some .colround
    ∧ ∀ s : State, s.S = #v[1, 0, 0, 0, 1, 0, 0, 0, 1, 0, 0, 0, 1, 0, 0, 0] →
        ∃ t : State, exec .colround s = .next t
          ∧ t.S = #v[0x10090288, 0, 0, 0, 0x00000101, 0, 0, 0, 0x00020401, 0, 0, 0, 0x40A04001, 0, 0, 0]

/-- R147: DBLROUND, the column-round first; it equals COLROUND then ROWROUND; the examples of R146 and V-42-9. -/
def Obligations.DblroundCommand : Prop :=
  EncodedAs 0x0B (fun _ => .dblround)
    ∧ (∀ s : State, exec .dblround s = .next { s with S := rowRound (columnRound s.S), BUSY := false, DONE := true })
    ∧ doubleRound State.reset.S = State.reset.S
    ∧ (∀ s : State, runCommands [.colround, .rowround] s = exec .dblround s)
    ∧ assemble "DBLROUND" [] = some .dblround
    ∧ doubleRound #v[1, 0, 0, 0, 0, 0, 0, 0, 0, 0, 0, 0, 0, 0, 0, 0]
        = #v[0x8186A22D, 0x0040A284, 0x82479210, 0x06929051, 0x08000090, 0x02402200, 0x00004000, 0x00800000,
             0x00010200, 0x20400000, 0x08008104, 0x00000000, 0x20500000, 0xA0000040, 0x0008180A, 0x612A8020]
    ∧ doubleRound (doubleRound #v[1, 0, 0, 0, 0, 0, 0, 0, 0, 0, 0, 0, 0, 0, 0, 0])
        = #v[0xF8CC3ACF, 0x229B9B39, 0x6B12039F, 0x200991D4, 0xC358F886, 0x0AB82AB4, 0x89D4DA32, 0xEC5C261D,
             0xB94A5648, 0xB14A9C2D, 0xC1BB429A, 0x381C34FE, 0x5A5239C4, 0x160399A0, 0xBA041404, 0x81746C17]

/-- R148, R149: PERMUTE is exactly ten doubleRounds, without feed-forward; it equals ten DBLROUND commands. -/
def Obligations.PermuteCommand : Prop :=
  EncodedAs 0x0C (fun _ => .permute)
    ∧ (∀ s : State, exec .permute s = .next { s with S := doubleRound^[10] s.S, BUSY := false, DONE := true })
    ∧ permute State.reset.S = State.reset.S
    ∧ (∀ s : State, runCommands (List.replicate 10 .dblround) s = exec .permute s)
    ∧ assemble "PERMUTE" [] = some .permute
    ∧ permute #v[1, 0, 0, 0, 0, 0, 0, 0, 0, 0, 0, 0, 0, 0, 0, 0]
        = #v[0x1CD2C5B5, 0x12E00046, 0x30C96673, 0x0CF7B89C, 0x01C1035C, 0xCFE87193, 0xF0BC08AC, 0x8FBF36EB,
             0x1F424D57, 0x48054223, 0xF92F5C52, 0x973F4FC7, 0xD3B4C91B, 0x55E794B5, 0x154E3D69, 0x16F5A6A3]

/-- R174: without the feed-forward the transformation is invertible: the permutation, and each function it is built
from, is a bijection. -/
def Obligations.PermutationIsInvertible : Prop :=
  Function.Bijective permute ∧ Function.Bijective rowRound ∧ Function.Bijective columnRound

/-! ## Packing and the block function (43_block_function.md) -/

/-- R170, R171, R173: pack, unpack and their round trips. -/
def Obligations.PackAndUnpackAreInverse : Prop :=
  (∀ b0 b1 b2 b3 : Byte,
      (pack b0 b1 b2 b3).toNat = b0.toNat + 256 * b1.toNat + 65536 * b2.toNat + 16777216 * b3.toNat
        ∧ unpack (pack b0 b1 b2 b3) = #v[b0, b1, b2, b3])
    ∧ (∀ w : Word, unpack w = #v[byteOf w 0, byteOf w 1, byteOf w 2, byteOf w 3]
        ∧ pack (unpack w)[0] (unpack w)[1] (unpack w)[2] (unpack w)[3] = w)
    ∧ pack 0x01 0x02 0x03 0x04 = 0x04030201 ∧ pack 0xFF 0x00 0x00 0x80 = 0x800000FF
    ∧ unpack 0xDEADBEEF = #v[0xEF, 0xBE, 0xAD, 0xDE]

/-- R172: words and bytes are inverse bijections, byte 4i + k of `bytes W` is byte k of W[i], and it is the byte the S
window shows at offset 0x40 + 4i + k. -/
def Obligations.WordsAndBytesAreInverse : Prop :=
  (∀ w : StateVec, words (bytes w) = w) ∧ (∀ b : Vector Byte 64, bytes (words b) = b)
    ∧ (∀ (w : StateVec) (i : WordIndex) (k : Fin 4),
        (bytes w)[4 * i.val + k.val]'(by omega) = byteOf w[i] k.val)
    ∧ (∀ (b : Vector Byte 64) (i : WordIndex),
        (words b)[i] = pack (b[4 * i.val]'(by omega)) (b[4 * i.val + 1]'(by omega)) (b[4 * i.val + 2]'(by omega))
          (b[4 * i.val + 3]'(by omega)))
    ∧ ∀ (s : State) (m : Fin 64), s.BUSY = false →
        (hostAccess (.read (BitVec.ofNat 8 (0x40 + m.val)) .one) s).rdata = some ((bytes s.S)[m].setWidth 32)

/-- R174, R175: the block function adds its input to the permuted copy, generateBlock is its form on bytes, and HASH applies
it to S. -/
def Obligations.HashCommand : Prop :=
  EncodedAs 0x10 (fun _ => .hash)
    ∧ (∀ s : State, ∃ t : StateVec, exec .hash s = .next { s with S := t, BUSY := false, DONE := true }
        ∧ t = hash s.S ∧ ∀ i : WordIndex, t[i] = BitVec.ofNat 32 (s.S[i].toNat + (permute s.S)[i].toNat))
    ∧ (∀ b : Vector Byte 64, generateBlock b = bytes (hash (words b)))
    ∧ hash State.reset.S = State.reset.S
    ∧ assemble "HASH" [] = some .hash
    ∧ (permute #v[1, 0, 0, 0, 0, 0, 0, 0, 0, 0, 0, 0, 0, 0, 0, 0])[0] = 0x1CD2C5B5
    ∧ ∀ x : StateVec, x = hash #v[1, 0, 0, 0, 0, 0, 0, 0, 0, 0, 0, 0, 0, 0, 0, 0] →
        x[0] = 0x1CD2C5B6 ∧ x[1] = 0x12E00046 ∧ x[15] = 0x16F5A6A3

/-- R176: 64 bytes written to the S window in offset order, by byte or by word writes, then HASH and its completion, leave
generateBlock of them to be read byte by byte, however many STATUS reads come before the completion. -/
def Obligations.HashOfBytesThroughTheHostPort : Prop :=
  ∀ (s : State) (b : Vector Byte 64) (n : Nat) (rest : List Move), s.BUSY = false →
    (s.moves = wrBytes 0x40 b.toList ++ cmdWord (encode .hash) :: waitFor n ++ rest →
        ∃ t : State, runSteps (64 + 1 + (n + 2)) s = .next t ∧ t.moves = rest ∧ t.BUSY = false
          ∧ ∀ m : Fin 64, (hostAccess (.read (BitVec.ofNat 8 (0x40 + m.val)) .one) t).rdata
              = some ((generateBlock b)[m].setWidth 32))
      ∧ (s.moves = wrWords 0x40 (words b).toList ++ cmdWord (encode .hash) :: waitFor n ++ rest →
          ∃ t : State, runSteps (16 + 1 + (n + 2)) s = .next t ∧ t.moves = rest ∧ t.BUSY = false
            ∧ ∀ m : Fin 64, (hostAccess (.read (BitVec.ofNat 8 (0x40 + m.val)) .one) t).rdata
                = some ((generateBlock b)[m].setWidth 32))

/-! ## Keystream (44_keystream.md) -/

/-- R191, R192, R193: the words of the input layout in each mode, for any constant table, and the counter's eight
little-endian bytes at offsets 32 to 39 of the layout. -/
def Obligations.KeyExpandLayout : Prop :=
  ∀ (cs : Config.Constants) (key : Vector Word 8) (nonce : Vector Word 2) (ctr : BitVec 64),
    keyMode 32 = .twoKey ∧ keyMode 16 = .oneKey
      ∧ keyExpandWords cs .twoKey key nonce ctr
          = #v[cs.twoKey[0], key[0], key[1], key[2], key[3], cs.twoKey[1], nonce[0], nonce[1],
               BitVec.ofNat 32 ctr.toNat, BitVec.ofNat 32 (ctr.toNat / 2 ^ 32), cs.twoKey[2], key[4], key[5], key[6],
               key[7], cs.twoKey[3]]
      ∧ keyExpandWords cs .oneKey key nonce ctr
          = #v[cs.oneKey[0], key[0], key[1], key[2], key[3], cs.oneKey[1], nonce[0], nonce[1],
               BitVec.ofNat 32 ctr.toNat, BitVec.ofNat 32 (ctr.toNat / 2 ^ 32), cs.oneKey[2], key[0], key[1], key[2],
               key[3], cs.oneKey[3]]
      ∧ ∀ k : Fin 8, (bytes (keyExpandWords cs .twoKey key nonce ctr))[32 + k.val]'(by omega)
          = BitVec.ofNat 8 (ctr.toNat / 256 ^ k.val)

/-- R194: CONFIGURE on a legal key length, and its error on an illegal one; in a state that meets the invariant, a failure
leaves CONFIGURED = 0, and a configured generator is configured again. -/
def Obligations.ConfigureCommand : Prop :=
  EncodedAs 0x18 (fun _ => .configure)
    ∧ (∀ s : State, s.KEYLEN = 16 ∨ s.KEYLEN = 32 → exec .configure s = .next
        { s with CONFIGURED := true, KSBLK := 0, KSOFF := 0, KSEND := false, BUSY := false, DONE := true })
    ∧ (∀ s : State, s.KEYLEN ≠ 16 → s.KEYLEN ≠ 32 → exec .configure s = .next (failedCommand 3 s)
        ∧ (Inv s → (failedCommand 3 s).CONFIGURED = false))
    ∧ (∀ s : State, Inv s → s.CONFIGURED = true → exec .configure s = .next
        { s with KSBLK := 0, KSOFF := 0, KSEND := false, BUSY := false, DONE := true })
    ∧ assemble "CONFIGURE" [] = some .configure
    ∧ ∀ s : State, s.KEYLEN = 32 → s.ERR = false → s.ERRCODE = 0 →
        ∃ t : State, exec .configure s = .next t ∧ statusWord t = 0x0000000A ∧ t.KSBLK = 0 ∧ t.KSOFF = 0

/-- R195: EXPAND in a configured generator, over any constant table, its error in an unconfigured one, EXPAND then HASH as
GETBLOCK, and the example (over the default constants, log 7). -/
def Obligations.ExpandCommand : Prop :=
  EncodedAs 0x11 (fun _ => .expand)
    ∧ (∀ s : State, s.CONFIGURED = true → exec .expand s = .next
        { s with
          S := keyExpandWords s.constants (keyMode s.KEYLEN) s.KEY s.NONCE s.BLKCTR
          BUSY := false
          DONE := true })
    ∧ (∀ s : State, s.CONFIGURED = false → exec .expand s = .next (failedCommand 4 s))
    ∧ (∀ s : State, s.CONFIGURED = true → runCommands [.expand, .hash] s = exec .getblock s)
    ∧ assemble "EXPAND" [] = some .expand
    ∧ keyExpandWords Config.defaultConstants (keyMode 32)
          #v[0x04030201, 0x08070605, 0x0C0B0A09, 0x100F0E0D, 0xCCCBCAC9, 0xD0CFCECD, 0xD4D3D2D1, 0xD8D7D6D5]
          #v[0x68676665, 0x6C6B6A69] 0
        = #v[0x61707865, 0x04030201, 0x08070605, 0x0C0B0A09, 0x100F0E0D, 0x3320646E, 0x68676665, 0x6C6B6A69,
             0x00000000, 0x00000000, 0x79622D32, 0xCCCBCAC9, 0xD0CFCECD, 0xD4D3D2D1, 0xD8D7D6D5, 0x6B206574]

/-- R197: GETBLOCK in a configured generator leaves Block(BLKCTR) in S, over any constant table, its error in an unconfigured
one, that the result depends on KEY, NONCE, KEYLEN and BLKCTR alone (in blocks with one constant table), and the example
(over the default constants, log 7). -/
def Obligations.GetblockCommand : Prop :=
  EncodedAs 0x12 (fun _ => .getblock)
    ∧ (∀ s : State, s.CONFIGURED = true →
        ∃ t : StateVec, exec .getblock s = .next { s with S := t, BUSY := false, DONE := true }
          ∧ bytes t = block s.BLKCTR s
          ∧ t = hash (keyExpandWords s.constants (keyMode s.KEYLEN) s.KEY s.NONCE s.BLKCTR))
    ∧ (∀ s : State, s.CONFIGURED = false → exec .getblock s = .next (failedCommand 4 s))
    ∧ (∀ s s' t t' : State, s.CONFIGURED = true → s'.CONFIGURED = true → s.constants = s'.constants →
        s.KEY = s'.KEY → s.NONCE = s'.NONCE → s.KEYLEN = s'.KEYLEN → s.BLKCTR = s'.BLKCTR → exec .getblock s = .next t → exec .getblock s' = .next t' →
        t.S = t'.S)
    ∧ assemble "GETBLOCK" [] = some .getblock
    ∧ ∀ x : StateVec,
        x = hash (keyExpandWords Config.defaultConstants (keyMode 32)
          #v[0x04030201, 0x08070605, 0x0C0B0A09, 0x100F0E0D, 0xCCCBCAC9, 0xD0CFCECD, 0xD4D3D2D1, 0xD8D7D6D5]
          #v[0x68676665, 0x6C6B6A69] 0) →
        x[0] = 0x19779BA0 ∧ x[15] = 0x94BBAFA8 ∧ (bytes x).toList.take 4 = [160, 155, 119, 25]

/-- R204: no command and no KS_DATA read changes BLKCTR; a step changes it only by a host write to its window, or by
reset. -/
def Obligations.BlockCounterNeverAdvances : Prop :=
  (∀ (i : Instr) (s t : State), exec i s = .next t → t.BLKCTR = s.BLKCTR)
    ∧ (∀ (s : State) (n : Size), (hostAccess (.read 0xBC n) s).BLKCTR = s.BLKCTR)
    ∧ ∀ s t : State, step s = .next t → t.BLKCTR ≠ s.BLKCTR →
        s.moves.head? = some .reset
          ∨ ∃ (off : BitVec 8) (n : Size) (w : Word), s.moves.head? = some (.host (.write off n w))
              ∧ 0xA8 ≤ off.toNat ∧ off.toNat ≤ 0xAF

/-- R199, R200: a KS_DATA read in an idle block: its two errors in their order, and otherwise the bytes at the stream
position and the advance of n bytes, which never wraps. -/
def Obligations.KeystreamRead : Prop :=
  ∀ (s : State) (n : Size), s.BUSY = false → n ≠ .two →
    (s.CONFIGURED = false → hostAccess (.read 0xBC n) s = refusedAccess 4 (.read 0xBC n) s)
      ∧ (s.CONFIGURED = true →
          (s.KSEND = true ∨ s.KSBLK.toNat = 2 ^ 64 - 1 ∧ 64 < s.KSOFF.toNat + n.toNat) →
          hostAccess (.read 0xBC n) s = refusedAccess 5 (.read 0xBC n) s)
      ∧ (s.CONFIGURED = true → s.KSEND = false → ∀ p q : Nat, p = s.KSBLK.toNat * 64 + s.KSOFF.toNat →
          q = p + n.toNat → q ≤ 2 ^ 70 →
          hostAccess (.read 0xBC n) s =
            { s with
              rdata := some (keystreamValue n s p)
              KSBLK := if q = 2 ^ 70 then BitVec.allOnes 64 else BitVec.ofNat 64 (q / 64)
              KSOFF := if q = 2 ^ 70 then 0 else BitVec.ofNat 6 (q % 64)
              KSEND := decide (q = 2 ^ 70) })

/-- R201: at the end of the stream every KS_DATA read is refused, consumes nothing and returns 0, however often it is
repeated. -/
def Obligations.CounterOverflowIsFatalToTheRead : Prop :=
  ∀ (s : State) (sizes : List Size) (rest : List Move), s.BUSY = false → s.CONFIGURED = true → s.KSEND = true →
    s.moves = streamReads sizes ++ rest → (∀ n ∈ sizes, n ≠ .two) → sizes ≠ [] →
    ∃ t : State, runSteps sizes.length s = .next t ∧ t.rdata = some 0 ∧ t.KSBLK = s.KSBLK ∧ t.KSOFF = s.KSOFF
      ∧ t.KSEND = true ∧ t.S = s.S ∧ t.CONFIGURED = true ∧ t.ERR = true ∧ (s.ERR = false → t.ERRCODE = 5)

/-- R202: after a successful CONFIGURE, byte i of n byte reads is byte `i mod 64` of block `i div 64`, and the words of
word reads are the same bytes packed, up to the end of the stream. -/
def Obligations.GetKeystream : Prop :=
  ∀ (s : State) (rest : List Move) (n : Nat), s.KEYLEN = 16 ∨ s.KEYLEN = 32 → s.BUSY = true →
    decode s.CMDQ = .ok .configure →
    (s.moves = .engine :: streamReads (List.replicate (n + 1) .one) ++ rest → n + 1 ≤ 2 ^ 70 →
        ∃ t : State, runSteps (n + 2) s = .next t ∧ t.moves = rest ∧ t.ERR = s.ERR
          ∧ t.rdata = some ((keystreamByte s n).setWidth 32))
      ∧ (s.moves = .engine :: streamReads (List.replicate (n + 1) .four) ++ rest → 4 * (n + 1) ≤ 2 ^ 70 →
          ∃ t : State, runSteps (n + 2) s = .next t ∧ t.moves = rest ∧ t.ERR = s.ERR
            ∧ t.rdata = some (pack (keystreamByte s (4 * n)) (keystreamByte s (4 * n + 1))
                (keystreamByte s (4 * n + 2)) (keystreamByte s (4 * n + 3))))

/-- R203(a), (b): two blocks with one constant table that agree on KEY, NONCE, KEYLEN and the stream position deliver the
same stream, whatever else differs. -/
def Obligations.StreamDependsOnKeyNonceAndPosition : Prop :=
  ∀ (s s' : State) (sizes : List Size), s.constants = s'.constants → s.BUSY = false → s'.BUSY = false →
    s.KEY = s'.KEY → s.NONCE = s'.NONCE →
    s.KEYLEN = s'.KEYLEN → s.CONFIGURED = s'.CONFIGURED → s.KSBLK = s'.KSBLK → s.KSOFF = s'.KSOFF →
    s.KSEND = s'.KSEND → sizes ≠ [] → s.moves = streamReads sizes → s'.moves = streamReads sizes →
    ∃ t t' : State, runSteps sizes.length s = .next t ∧ runSteps sizes.length s' = .next t' ∧ t.rdata = t'.rdata
      ∧ t.KSBLK = t'.KSBLK ∧ t.KSOFF = t'.KSOFF ∧ t.KSEND = t'.KSEND

/-- R203(c): a KS_DATA read touches no state of the commands, and no command but CONFIGURE touches the stream position. -/
def Obligations.StreamAndCommandsAreIndependent : Prop :=
  (∀ (s t : State) (n : Size), hostAccess (.read 0xBC n) s = t →
      t.S = s.S ∧ t.BLKCTR = s.BLKCTR ∧ t.KEY = s.KEY ∧ t.NONCE = s.NONCE ∧ t.KEYLEN = s.KEYLEN ∧ t.IE = s.IE
        ∧ t.CONFIGURED = s.CONFIGURED ∧ t.BUSY = s.BUSY ∧ t.DONE = s.DONE ∧ t.CMDQ = s.CMDQ)
    ∧ ∀ (i : Instr) (s t : State), i ≠ .configure → exec i s = .next t →
        t.KSBLK = s.KSBLK ∧ t.KSOFF = s.KSOFF ∧ t.KSEND = s.KSEND ∧ t.CONFIGURED = s.CONFIGURED

/-! ## Frames -/

/-- R21, R103, R412: no command writes a register but S (and, for CONFIGURE, the stream position and its flags), the error
record and BUSY and DONE; ADD32, XOR32 and ROTL32 write one word of S, QROUND four, NOP and CONFIGURE none. -/
def Obligations.CommandFrame : Prop :=
  ∀ (i : Instr) (s t : State), exec i s = .next t →
    t.KEYLEN = s.KEYLEN ∧ t.IE = s.IE ∧ t.KEY = s.KEY ∧ t.NONCE = s.NONCE ∧ t.BLKCTR = s.BLKCTR ∧ t.CMDQ = s.CMDQ
      ∧ t.constants = s.constants ∧ t.moves = s.moves ∧ t.rdata = s.rdata ∧ t.draws = s.draws
      ∧ (∀ ra rb rd : WordIndex, i = .add32 ra rb rd ∨ i = .xor32 ra rb rd →
          ∀ j : WordIndex, j ≠ rd → t.S[j] = s.S[j])
      ∧ (∀ (ra rd : WordIndex) (sh : Amount), i = .rotl32 ra sh rd → ∀ j : WordIndex, j ≠ rd → t.S[j] = s.S[j])
      ∧ (∀ ra rb rc rd : WordIndex, i = .qround ra rb rc rd →
          ∀ j : WordIndex, j ∉ [ra, rb, rc, rd] → t.S[j] = s.S[j])
      ∧ (i = .nop ∨ i = .configure → t.S = s.S)
      ∧ (t.ERR ≠ s.ERR → t.S = s.S ∧ t.KSBLK = s.KSBLK ∧ t.KSOFF = s.KSOFF ∧ t.KSEND = s.KSEND
          ∧ t.CONFIGURED = s.CONFIGURED)

/-! ## Host port (20_memory.md) -/

/-- R54, R55, and the size-2 clause of R53: a misaligned word access and every 2-byte access are refused whole, and so is
every access to a reserved offset, at any time. -/
def Obligations.MisalignedAndReservedAccessesAreRefused : Prop :=
  ∀ (s : State) (a : Access),
    (a.size = .two ∨ a.size = .four ∧ a.off.toNat % 4 ≠ 0
      ∨ 0x14 ≤ a.off.toNat ∧ a.off.toNat ≤ 0x3F ∨ 0xC0 ≤ a.off.toNat) →
    hostAccess a s = refusedAccess 7 a s

/-- R56: byte accesses to control registers and to KS_DATA off 0xBC, writes to read-only registers, reads of CMD. -/
def Obligations.WrongSizeOrDirectionIsRefused : Prop :=
  ∀ (s : State) (a : Access),
    (a.size = .one ∧ (a.off.toNat < 0x14 ∨ 0xB8 ≤ a.off.toNat ∧ a.off.toNat ≤ 0xBB
        ∨ 0xBD ≤ a.off.toNat ∧ a.off.toNat ≤ 0xBF)
      ∨ a.isWrite = true ∧ (a.off.toNat ≤ 0x03 ∨ 0x10 ≤ a.off.toNat ∧ a.off.toNat ≤ 0x13
        ∨ 0xBC ≤ a.off.toNat ∧ a.off.toNat ≤ 0xBF)
      ∨ a.isWrite = false ∧ 0x08 ≤ a.off.toNat ∧ a.off.toNat ≤ 0x0B) →
    hostAccess a s = refusedAccess 7 a s

/-- R61: a window read returns the word, or byte k of it, and changes nothing else; S needs an idle block (R68). -/
def Obligations.WindowRead : Prop :=
  ∀ (s : State) (r : Reg) (off : BitVec 8), windowOffset r = some off → (s.BUSY = false ∨ r.isS = false) →
    hostAccess (.read off .four) s = { s with rdata := some (windowWord r s) }
      ∧ ∀ k : Fin 4, hostAccess (.read (off + BitVec.ofNat 8 k.val) .one) s
          = { s with rdata := some ((byteOf (windowWord r s) k.val).setWidth 32) }

/-- R62, and the window rows of R58: a window write of a word, and of a byte, which changes only that byte; four byte
writes build the packed word. -/
def Obligations.WindowWrite : Prop :=
  ∀ (s : State) (r : Reg) (off : BitVec 8) (v : Word), s.BUSY = false → windowOffset r = some off →
    hostAccess (.write off .four v) s = windowStore r v s
      ∧ (∀ k : Fin 4, ∃ w : Word, hostAccess (.write (off + BitVec.ofNat 8 k.val) .one v) s = windowStore r w s
          ∧ ∀ j : Fin 4, byteOf w j.val = if j = k then v.setWidth 8 else byteOf (windowWord r s) j.val)
      ∧ ∀ (b : Fin 4 → Byte) (order : List (Fin 4)), order.Perm [0, 1, 2, 3] →
          order.foldl (fun t k => hostAccess (.write (off + BitVec.ofNat 8 k.val) .one ((b k).setWidth 32)) t) s
            = windowStore r (pack (b 0) (b 1) (b 2) (b 3)) s

/-- R52, R61, R62: in an idle block a window word reads as it was last written, and a write leaves every other window word
as it was. -/
def Obligations.WindowReadAfterWrite : Prop :=
  ∀ (s : State) (r r' : Reg) (off off' : BitVec 8) (v : Word), s.BUSY = false → windowOffset r = some off →
    windowOffset r' = some off' →
    (hostAccess (.read off' .four) (hostAccess (.write off .four v) s)).rdata
      = some (if r' = r then v else windowWord r' s)

/-- R63: what the control registers read as, at any time. -/
def Obligations.ControlRegisterReads : Prop :=
  ∀ s : State,
    hostAccess (.read 0x00 .four) s = { s with rdata := some 0x4B303253 }
      ∧ hostAccess (.read 0x04 .four) s
          = { s with rdata := some (BitVec.ofNat 32 (s.KEYLEN.toNat + 2 ^ 8 * s.IE.toNat)) }
      ∧ hostAccess (.read 0x0C .four) s
          = { s with rdata := some (BitVec.ofNat 32 (s.BUSY.toNat + 2 * s.DONE.toNat + 4 * s.ERR.toNat
              + 8 * s.CONFIGURED.toNat + 16 * s.KSEND.toNat + 2 ^ 8 * s.ERRCODE.toNat)) }
      ∧ hostAccess (.read 0x10 .four) s = { s with rdata := some s.ERRINFO }
      ∧ hostAccess (.read 0xB8 .four) s = { s with rdata := some (BitVec.ofNat 32 s.KSOFF.toNat) }

/-- R64, R65, R67: CTRL and KSOFF writes in an idle block, the bits above the fields ignored; a STATUS write at any time:
bit 1 clears DONE, bit 2 clears the error record, nothing else changes. -/
def Obligations.ControlRegisterWrites : Prop :=
  ∀ (s : State) (w : Word),
    (s.BUSY = false →
        hostAccess (.write 0x04 .four w) s
            = { s with
                KEYLEN := BitVec.ofNat 8 w.toNat
                IE := w.toNat.testBit 8
                CONFIGURED := false
                rdata := none }
          ∧ hostAccess (.write 0xB8 .four w) s
              = { s with KSOFF := BitVec.ofNat 6 w.toNat, KSEND := false, rdata := none })
      ∧ hostAccess (.write 0x0C .four w) s
          = { s with
              DONE := s.DONE && !w.toNat.testBit 1
              ERR := s.ERR && !w.toNat.testBit 2
              ERRCODE := if w.toNat.testBit 2 then 0 else s.ERRCODE
              ERRINFO := if w.toNat.testBit 2 then 0 else s.ERRINFO
              rdata := none }

/-- R68: accesses in the BUSY window that pass the access checks: (a) writes but to STATUS and (b) KS_DATA reads are
refused, (c) a read of S returns a draw, of which nothing is said but the access's size, (d) every other read returns the
current value and changes nothing. -/
def Obligations.BusyWindowAccesses : Prop :=
  ∀ (s : State) (a : Access), s.BUSY = true → accessRefused a = false →
    (a.isWrite = true → a.reg ≠ .status → hostAccess a s = refusedAccess 6 a s)
      ∧ (a.isWrite = false → a.reg = .ksData → hostAccess a s = refusedAccess 6 a s)
      ∧ (a.isWrite = false → a.reg.isS = true →
          ∃ (v : Word) (d : Nat), hostAccess a s = { s with rdata := some v, draws := d }
            ∧ (a.size = .one → v.toNat < 256))
      ∧ (a.isWrite = false → a.reg ≠ .ksData → a.reg.isS = false →
          hostAccess a s = { s with rdata := some (readReg a.reg a.off a.size s) })

/-- R57: a read that is not a successful KS_DATA read changes nothing but what it returns, the draw counter and, when it
is refused, the error record; and a read outside KS_DATA, repeated, returns the same value unless it is a draw. -/
def Obligations.OnlyKeystreamReadsHaveSideEffects : Prop :=
  ∀ (s t : State) (off : BitVec 8) (n : Size), decodeOffset off ≠ .ksData → hostAccess (.read off n) s = t →
    t = { s with ERR := t.ERR, ERRCODE := t.ERRCODE, ERRINFO := t.ERRINFO, rdata := t.rdata, draws := t.draws }
      ∧ (accessRefused (.read off n) = false →
          t.ERR = s.ERR ∧ t.ERRCODE = s.ERRCODE ∧ t.ERRINFO = s.ERRINFO)
      ∧ (s.BUSY = false ∨ (decodeOffset off).isS = false → (hostAccess (.read off n) t).rdata = t.rdata)

/-- R104, R69: while a command is latched, no run of host accesses changes a register it reads, CMDQ or BUSY, so the
command has the same effect on S and the generator before and after them, and a STATUS read still finds BUSY = 1. -/
def Obligations.FrozenInputs : Prop :=
  ∀ (s : State) (accesses : List Access) (rest : List Move), s.BUSY = true →
    s.moves = accesses.map .host ++ rest →
    ∃ t : State, runSteps accesses.length s = .next t
      ∧ t = { s with
              DONE := t.DONE
              ERR := t.ERR
              ERRCODE := t.ERRCODE
              ERRINFO := t.ERRINFO
              moves := rest
              rdata := t.rdata
              draws := t.draws }
      ∧ (∃ v : Word, (hostAccess (.read 0x0C .four) t).rdata = some v ∧ v.toNat % 2 = 1)
      ∧ ∃ u v : State, engineMove s = .next u ∧ engineMove t = .next v ∧ v.S = u.S ∧ v.CONFIGURED = u.CONFIGURED
          ∧ v.KSBLK = u.KSBLK ∧ v.KSOFF = u.KSOFF ∧ v.KSEND = u.KSEND

/-! ## Errors, interrupt, reset, invariants (60_exceptions.md, 70_reset_and_hazards.md, 10_state.md) -/

/-- R302: the raise rule: the first error since ERR was last cleared wins, and a later one changes nothing. -/
def Obligations.FirstErrorIsKept : Prop :=
  ∀ (s : State) (e : ErrorCode) (info : Word),
    (s.ERR = false → raise e info s = { s with ERR := true, ERRCODE := e.code, ERRINFO := info })
      ∧ (s.ERR = true → raise e info s = s)

/-- R303: the access word, field by field, and which of the two layouts a NOT_CONFIGURED record holds. -/
def Obligations.ErrorInfoLayout : Prop :=
  (∀ a : Access, (accessWord a).toNat % 256 = a.off.toNat
      ∧ (accessWord a).toNat / 256 % 4 = (match a.size with | .one => 0 | .two => 1 | .four => 2)
      ∧ (accessWord a).toNat / 1024 % 2 = a.isWrite.toNat ∧ (accessWord a).toNat < 2048)
    ∧ (∀ s t : State, s.BUSY = true → s.ERR = false → engineMove s = .next t → t.ERR = true →
        t.ERRINFO = s.CMDQ ∧ (t.ERRCODE = 4 → t.ERRINFO.toNat % 256 = 0x11 ∨ t.ERRINFO.toNat % 256 = 0x12))
    ∧ ∀ (s t : State) (a : Access), s.ERR = false → hostAccess a s = t → t.ERR = true →
        t.ERRINFO = accessWord a ∧ (t.ERRCODE = 4 → t.ERRINFO.toNat % 256 = 0xBC)

/-- R305: the priority of a host access's errors: ACCESS at any time, then BUSY, then NOT_CONFIGURED, then CTR_OVERFLOW with
both its causes; every other access, a STATUS write in the BUSY window and a KS_DATA read within the stream among them,
records no error. -/
def Obligations.AccessErrorPriority : Prop :=
  ∀ (s : State) (a : Access), s.ERR = false →
    (accessRefused a = true → (hostAccess a s).ERRCODE = 7)
      ∧ (accessRefused a = false → s.BUSY = true → (a.isWrite = true ∧ a.reg ≠ .status ∨ a.reg = .ksData) →
          (hostAccess a s).ERRCODE = 6)
      ∧ (accessRefused a = false → s.BUSY = false → a.reg = .ksData → s.CONFIGURED = false →
          (hostAccess a s).ERRCODE = 4)
      ∧ (accessRefused a = false → s.BUSY = false → a.reg = .ksData → s.CONFIGURED = true →
          (s.KSEND = true ∨ s.KSBLK.toNat = 2 ^ 64 - 1 ∧ 64 < s.KSOFF.toNat + a.size.toNat) →
          (hostAccess a s).ERRCODE = 5)
      ∧ (accessRefused a = false → s.BUSY = false → a.reg = .ksData → s.CONFIGURED = true → s.KSEND = false →
          (s.KSBLK.toNat ≠ 2 ^ 64 - 1 ∨ s.KSOFF.toNat + a.size.toNat ≤ 64) → (hostAccess a s).ERR = false)
      ∧ (accessRefused a = false → a.reg ≠ .ksData → (s.BUSY = false ∨ a.isWrite = false ∨ a.reg = .status) →
          (hostAccess a s).ERR = false)

/-- R300: nothing stops the block: every step of every state answers a next state. That an idle block with no move left
stays as it is, is the model's (log 2). -/
def Obligations.TheBlockNeverStops : Prop :=
  ∀ s : State, ∃ t : State, step s = .next t

/-- R46, R308: the interrupt line, and its level at reset. -/
def Obligations.InterruptLine : Prop :=
  (∀ s : State, irq s = true ↔ s.IE = true ∧ (s.DONE = true ∨ s.ERR = true))
    ∧ irq State.reset = false
    ∧ (∀ s t : State, s.IE = true → s.BUSY = true → engineMove s = .next t → irq t = true)
    ∧ ∀ s : State, s.IE = true → s.ERR = false → s.BUSY = false →
        ∀ w : Word, irq (hostAccess (.write 0x08 .four w) s) = false

/-- R400, R401, R403: the RESET step at any point, inside the BUSY window too, gives every register its reset value, abandons
a latched command and leaves BUSY = 0, so that no ENGINE step is enabled; and the state after reset has the same values. -/
def Obligations.ResetGivesTheResetValues : Prop :=
  (∀ (s : State) (rest : List Move), s.moves = .reset :: rest →
      ∃ t : State, step s = .next t
        ∧ (∀ i : WordIndex, t.S[i] = 0) ∧ (∀ j : Fin 8, t.KEY[j] = 0) ∧ (∀ j : Fin 2, t.NONCE[j] = 0)
        ∧ t.BLKCTR = 0 ∧ t.KSBLK = 0 ∧ t.KSOFF = 0 ∧ t.ERRINFO = 0 ∧ t.CMDQ = 0 ∧ ctrlWord t = 0 ∧ statusWord t = 0
        ∧ irq t = false ∧ t.BUSY = false ∧ t.DONE = false
        ∧ (hostAccess (.read 0x00 .four) t).rdata = some 0x4B303253)
    ∧ ctrlWord State.reset = 0 ∧ statusWord State.reset = 0 ∧ irq State.reset = false
    ∧ (∀ i : WordIndex, State.reset.S[i] = 0) ∧ (∀ j : Fin 8, State.reset.KEY[j] = 0)
    ∧ (∀ j : Fin 2, State.reset.NONCE[j] = 0) ∧ State.reset.BLKCTR = 0 ∧ State.reset.KSBLK = 0
    ∧ State.reset.KSOFF = 0 ∧ State.reset.ERRINFO = 0 ∧ State.reset.CMDQ = 0

/-- R48: the invariant holds at reset, whatever the constant table. -/
def Obligations.InvariantAtReset : Prop := Inv State.reset ∧ ∀ cs : Config.Constants, Inv (State.resetWith cs)

/-- R48: every step of every agent keeps the invariant. -/
def Obligations.InvariantKept : Prop :=
  ∀ s t : State, Inv s → step s = .next t → Inv t

/-- R47: what sets and what clears each flag, over every step. That a step with no move left is the ENGINE's, the disjunct
`s.moves = []`, is the model's (log 2). -/
def Obligations.FlagWriters : Prop :=
  ∀ s t : State, step s = .next t →
    (s.BUSY = false → t.BUSY = true → ∃ w : Word, s.moves.head? = some (wr32 0x08 w))
      ∧ (s.BUSY = true → t.BUSY = false → s.moves = [] ∨ s.moves.head? = some .engine ∨ s.moves.head? = some .reset)
      ∧ (s.DONE = false → t.DONE = true → s.BUSY = true ∧ t.BUSY = false)
      ∧ (s.DONE = true → t.DONE = false → s.moves.head? = some .reset
          ∨ ∃ w : Word, s.moves.head? = some (wr32 0x08 w) ∨ s.moves.head? = some (wr32 0x0C w) ∧ w.getLsbD 1 = true)
      ∧ (s.ERR = false → t.ERR = true →
          (s.BUSY = true ∧ t.BUSY = false ∧ ∃ k, commandCheck s.CMDQ s = some k)
          ∨ ∃ a : Access, s.moves.head? = some (.host a)
              ∧ (accessRefused a = true ∨ busyRefused a s = true
                ∨ ∃ n : Size, a = .read 0xBC n ∧ (s.CONFIGURED = false ∨ s.KSEND = true
                    ∨ s.KSBLK.toNat = 2 ^ 64 - 1 ∧ 64 < s.KSOFF.toNat + n.toNat)))
      ∧ (s.ERR = true → t.ERR = false → s.moves.head? = some .reset
          ∨ ∃ w : Word, s.moves.head? = some (wr32 0x0C w) ∧ w.getLsbD 2 = true)
      ∧ (t.ERRCODE ≠ s.ERRCODE → s.moves.head? = some .reset ∨ s.ERR = false ∧ t.ERR = true
          ∨ ∃ w : Word, s.moves.head? = some (wr32 0x0C w) ∧ w.getLsbD 2 = true)
      ∧ (s.CONFIGURED = false → t.CONFIGURED = true → s.BUSY = true ∧ decode s.CMDQ = .ok .configure
          ∧ (s.KEYLEN = 16 ∨ s.KEYLEN = 32))
      ∧ (s.CONFIGURED = true → t.CONFIGURED = false → s.moves.head? = some .reset
          ∨ ∃ (off : BitVec 8) (n : Size) (w : Word), s.moves.head? = some (.host (.write off n w))
              ∧ (off = 0x04 ∨ 0x80 ≤ off.toNat ∧ off.toNat ≤ 0xA7))
      ∧ (s.KSEND = false → t.KSEND = true → ∃ n : Size, s.moves.head? = some (.host (.read 0xBC n)))
      ∧ (s.KSEND = true → t.KSEND = false → s.moves.head? = some .reset
          ∨ s.BUSY = true ∧ t.BUSY = false ∧ decode s.CMDQ = .ok .configure
          ∨ ∃ (off : BitVec 8) (n : Size) (w : Word), s.moves.head? = some (.host (.write off n w))
              ∧ 0xB0 ≤ off.toNat ∧ off.toNat ≤ 0xB8)

/-! ## The constant table (44_keystream.md R190) -/

/-- R190: the constant tables are constants of the block: no step of any agent changes them, and a state's table is the one
that EXPAND, GETBLOCK and the stream use. -/
def Obligations.ConstantTablesNeverChange : Prop :=
  (∀ s t : State, step s = .next t → t.constants = s.constants)
    ∧ (∀ (n : Nat) (s t : State), runSteps n s = .next t → t.constants = s.constants)
    ∧ (∀ (s : State) (c : BitVec 64), s.KEYLEN = 32 →
        block c s = bytes (hash #v[s.constants.twoKey[0], s.KEY[0], s.KEY[1], s.KEY[2], s.KEY[3], s.constants.twoKey[1],
          s.NONCE[0], s.NONCE[1], BitVec.ofNat 32 c.toNat, BitVec.ofNat 32 (c.toNat / 2 ^ 32), s.constants.twoKey[2],
          s.KEY[4], s.KEY[5], s.KEY[6], s.KEY[7], s.constants.twoKey[3]]))
    ∧ ∀ (s : State) (c : BitVec 64), s.KEYLEN = 16 →
        block c s = bytes (hash #v[s.constants.oneKey[0], s.KEY[0], s.KEY[1], s.KEY[2], s.KEY[3], s.constants.oneKey[1],
          s.NONCE[0], s.NONCE[1], BitVec.ofNat 32 c.toNat, BitVec.ofNat 32 (c.toNat / 2 ^ 32), s.constants.oneKey[2],
          s.KEY[0], s.KEY[1], s.KEY[2], s.KEY[3], s.constants.oneKey[3]])
end

