-- ==== Sys2Proof/Laws/Decode.lean ====
section
/-! SUPPORT. The opcode map: no two rows overlap, and `decode` and the table's reader agree. -/

namespace Sys2Proof

/-- No word matches two rows of the opcode map (30_encoding.md R83). -/
theorem opcodeMap_rows_disjoint :
    opcodeMap.Pairwise fun r r' => r.matchValue &&& (r.mask &&& r'.mask) ≠ r'.matchValue &&& (r.mask &&& r'.mask) := by
  decide

/-- The table's numbering of a 32-bit row is the command word's own (30_encoding.md R81). -/
theorem decodeTableWord_of_word (w : Word) :
    decodeTableWord 32 w.toNat = match decode w with
      | .ok i => some i
      | .error _ => none := by
  have h : BitVec.ofNat 32 (w.toNat % 2 ^ 32) = w := by
    apply BitVec.eq_of_toNat_eq
    simpa using w.isLt
  cases hd : decode w <;> simp only [decodeTableWord, h, hd, Nat.le_refl, if_true]

/-- The decoded command's fields are those of the word (30_encoding.md R82). -/
theorem decode_qround {w : Word} (h0 : fieldRES0 w = 0) (h1 : fieldRES1 w = 0) (h2 : (fieldOP w).toNat = 0x08) :
    decode w = .ok (.qround (fieldRA w) (fieldRB w) (fieldRC w) (fieldRD w)) := by
  simp [decode, h0, h1, h2]

end Sys2Proof
end

