-- ==== Sys2Proof/Laws/Lanes.lean ====
section
/-! SUPPORT. Concatenation and byte lanes as arithmetic: every read of a lane or a half after a write of one. -/

namespace Sys2Proof.Machine

/-- `{a, b}` is `a · 2^n + b` (00_scope.md R9). -/
theorem toNat_append {m n : Nat} (a : BitVec m) (b : BitVec n) : (a ++ b).toNat = a.toNat * 2 ^ n + b.toNat := by
  rw [BitVec.toNat_append, ← Nat.shiftLeft_add_eq_or_of_lt b.isLt, Nat.shiftLeft_eq]

theorem toNat_half (v : BitVec 64) (h : Fin 2) : (half v h).toNat = v.toNat / 2 ^ (32 * h.val) % 2 ^ 32 := by
  simp [half, BitVec.extractLsb'_toNat, Nat.shiftRight_eq_div_pow]

theorem toNat_lane (w : Word) (k : Nat) : (lane w k).toNat = w.toNat / 2 ^ (8 * k) % 2 ^ 8 := by
  simp [lane, BitVec.extractLsb'_toNat, Nat.shiftRight_eq_div_pow]

theorem toNat_withHalf_low (v : BitVec 64) (w : Word) :
    (withHalf v 0 w).toNat = v.toNat / 2 ^ 32 % 2 ^ 32 * 2 ^ 32 + w.toNat := by
  have h : (half v 1).toNat = v.toNat / 2 ^ 32 % 2 ^ 32 := by simp [toNat_half]
  rw [← h]
  exact toNat_append (half v 1) w

theorem toNat_withHalf_high (v : BitVec 64) (w : Word) :
    (withHalf v 1 w).toNat = w.toNat * 2 ^ 32 + v.toNat % 2 ^ 32 := by
  have h : (half v 0).toNat = v.toNat % 2 ^ 32 := by simp [toNat_half]
  rw [← h]
  exact toNat_append w (half v 0)

/-- A half reads as it was written, and a write leaves the other half as it was. -/
theorem half_withHalf (v : BitVec 64) (h k : Fin 2) (w : Word) :
    half (withHalf v h w) k = if k = h then w else half v k := by
  apply BitVec.eq_of_toNat_eq
  have hv := v.isLt
  have hw := w.isLt
  fin_cases h <;> fin_cases k <;> simp [toNat_half, toNat_withHalf_low, toNat_withHalf_high] <;> omega

/-- A byte lane reads as it was written, and a write leaves the other lanes as they were. -/
theorem lane_withLane (w : Word) (b : Byte) (k j : Fin 4) :
    lane (withLane w k b) j = if j = k then b else lane w j := by
  ext i hi
  fin_cases k <;> fin_cases j <;>
    simp [lane, withLane, BitVec.getElem_extractLsb', BitVec.getLsbD_or, BitVec.getLsbD_and,
      BitVec.getLsbD_shiftLeft, BitVec.getLsbD_setWidth] <;>
    interval_cases i <;> simp [BitVec.getLsbD_eq_getElem]

end Sys2Proof.Machine
end

