-- ==== Sys2Proof/Laws/State.lean ====
section
/-! SUPPORT. One lemma per field for each named update of State, so that no later proof unfolds a record update. -/

namespace Sys2Proof.Machine

/-! ## writeS -/

@[simp] theorem writeS_S (i : WordIndex) (v : Word) (s : State) : (writeS i v s).S = s.S.set i.val v i.isLt := rfl
@[simp] theorem writeS_KEYLEN (i : WordIndex) (v : Word) (s : State) : (writeS i v s).KEYLEN = s.KEYLEN := rfl
@[simp] theorem writeS_IE (i : WordIndex) (v : Word) (s : State) : (writeS i v s).IE = s.IE := rfl
@[simp] theorem writeS_BUSY (i : WordIndex) (v : Word) (s : State) : (writeS i v s).BUSY = s.BUSY := rfl
@[simp] theorem writeS_DONE (i : WordIndex) (v : Word) (s : State) : (writeS i v s).DONE = s.DONE := rfl
@[simp] theorem writeS_ERR (i : WordIndex) (v : Word) (s : State) : (writeS i v s).ERR = s.ERR := rfl
@[simp] theorem writeS_CONFIGURED (i : WordIndex) (v : Word) (s : State) : (writeS i v s).CONFIGURED = s.CONFIGURED := rfl
@[simp] theorem writeS_KSEND (i : WordIndex) (v : Word) (s : State) : (writeS i v s).KSEND = s.KSEND := rfl
@[simp] theorem writeS_ERRCODE (i : WordIndex) (v : Word) (s : State) : (writeS i v s).ERRCODE = s.ERRCODE := rfl
@[simp] theorem writeS_ERRINFO (i : WordIndex) (v : Word) (s : State) : (writeS i v s).ERRINFO = s.ERRINFO := rfl
@[simp] theorem writeS_KEY (i : WordIndex) (v : Word) (s : State) : (writeS i v s).KEY = s.KEY := rfl
@[simp] theorem writeS_NONCE (i : WordIndex) (v : Word) (s : State) : (writeS i v s).NONCE = s.NONCE := rfl
@[simp] theorem writeS_BLKCTR (i : WordIndex) (v : Word) (s : State) : (writeS i v s).BLKCTR = s.BLKCTR := rfl
@[simp] theorem writeS_KSBLK (i : WordIndex) (v : Word) (s : State) : (writeS i v s).KSBLK = s.KSBLK := rfl
@[simp] theorem writeS_KSOFF (i : WordIndex) (v : Word) (s : State) : (writeS i v s).KSOFF = s.KSOFF := rfl
@[simp] theorem writeS_CMDQ (i : WordIndex) (v : Word) (s : State) : (writeS i v s).CMDQ = s.CMDQ := rfl
@[simp] theorem writeS_constants (i : WordIndex) (v : Word) (s : State) : (writeS i v s).constants = s.constants := rfl
@[simp] theorem writeS_moves (i : WordIndex) (v : Word) (s : State) : (writeS i v s).moves = s.moves := rfl
@[simp] theorem writeS_rdata (i : WordIndex) (v : Word) (s : State) : (writeS i v s).rdata = s.rdata := rfl
@[simp] theorem writeS_draws (i : WordIndex) (v : Word) (s : State) : (writeS i v s).draws = s.draws := rfl

/-! ## writeAllS -/

@[simp] theorem writeAllS_S (t : StateVec) (s : State) : (writeAllS t s).S = t := rfl
@[simp] theorem writeAllS_KEYLEN (t : StateVec) (s : State) : (writeAllS t s).KEYLEN = s.KEYLEN := rfl
@[simp] theorem writeAllS_IE (t : StateVec) (s : State) : (writeAllS t s).IE = s.IE := rfl
@[simp] theorem writeAllS_BUSY (t : StateVec) (s : State) : (writeAllS t s).BUSY = s.BUSY := rfl
@[simp] theorem writeAllS_DONE (t : StateVec) (s : State) : (writeAllS t s).DONE = s.DONE := rfl
@[simp] theorem writeAllS_ERR (t : StateVec) (s : State) : (writeAllS t s).ERR = s.ERR := rfl
@[simp] theorem writeAllS_CONFIGURED (t : StateVec) (s : State) : (writeAllS t s).CONFIGURED = s.CONFIGURED := rfl
@[simp] theorem writeAllS_KSEND (t : StateVec) (s : State) : (writeAllS t s).KSEND = s.KSEND := rfl
@[simp] theorem writeAllS_ERRCODE (t : StateVec) (s : State) : (writeAllS t s).ERRCODE = s.ERRCODE := rfl
@[simp] theorem writeAllS_ERRINFO (t : StateVec) (s : State) : (writeAllS t s).ERRINFO = s.ERRINFO := rfl
@[simp] theorem writeAllS_KEY (t : StateVec) (s : State) : (writeAllS t s).KEY = s.KEY := rfl
@[simp] theorem writeAllS_NONCE (t : StateVec) (s : State) : (writeAllS t s).NONCE = s.NONCE := rfl
@[simp] theorem writeAllS_BLKCTR (t : StateVec) (s : State) : (writeAllS t s).BLKCTR = s.BLKCTR := rfl
@[simp] theorem writeAllS_KSBLK (t : StateVec) (s : State) : (writeAllS t s).KSBLK = s.KSBLK := rfl
@[simp] theorem writeAllS_KSOFF (t : StateVec) (s : State) : (writeAllS t s).KSOFF = s.KSOFF := rfl
@[simp] theorem writeAllS_CMDQ (t : StateVec) (s : State) : (writeAllS t s).CMDQ = s.CMDQ := rfl
@[simp] theorem writeAllS_constants (t : StateVec) (s : State) : (writeAllS t s).constants = s.constants := rfl
@[simp] theorem writeAllS_moves (t : StateVec) (s : State) : (writeAllS t s).moves = s.moves := rfl
@[simp] theorem writeAllS_rdata (t : StateVec) (s : State) : (writeAllS t s).rdata = s.rdata := rfl
@[simp] theorem writeAllS_draws (t : StateVec) (s : State) : (writeAllS t s).draws = s.draws := rfl

/-! ## acceptCommand -/

@[simp] theorem acceptCommand_S (w : Word) (s : State) : (acceptCommand w s).S = s.S := rfl
@[simp] theorem acceptCommand_KEYLEN (w : Word) (s : State) : (acceptCommand w s).KEYLEN = s.KEYLEN := rfl
@[simp] theorem acceptCommand_IE (w : Word) (s : State) : (acceptCommand w s).IE = s.IE := rfl
@[simp] theorem acceptCommand_BUSY (w : Word) (s : State) : (acceptCommand w s).BUSY = true := rfl
@[simp] theorem acceptCommand_DONE (w : Word) (s : State) : (acceptCommand w s).DONE = false := rfl
@[simp] theorem acceptCommand_ERR (w : Word) (s : State) : (acceptCommand w s).ERR = s.ERR := rfl
@[simp] theorem acceptCommand_CONFIGURED (w : Word) (s : State) : (acceptCommand w s).CONFIGURED = s.CONFIGURED := rfl
@[simp] theorem acceptCommand_KSEND (w : Word) (s : State) : (acceptCommand w s).KSEND = s.KSEND := rfl
@[simp] theorem acceptCommand_ERRCODE (w : Word) (s : State) : (acceptCommand w s).ERRCODE = s.ERRCODE := rfl
@[simp] theorem acceptCommand_ERRINFO (w : Word) (s : State) : (acceptCommand w s).ERRINFO = s.ERRINFO := rfl
@[simp] theorem acceptCommand_KEY (w : Word) (s : State) : (acceptCommand w s).KEY = s.KEY := rfl
@[simp] theorem acceptCommand_NONCE (w : Word) (s : State) : (acceptCommand w s).NONCE = s.NONCE := rfl
@[simp] theorem acceptCommand_BLKCTR (w : Word) (s : State) : (acceptCommand w s).BLKCTR = s.BLKCTR := rfl
@[simp] theorem acceptCommand_KSBLK (w : Word) (s : State) : (acceptCommand w s).KSBLK = s.KSBLK := rfl
@[simp] theorem acceptCommand_KSOFF (w : Word) (s : State) : (acceptCommand w s).KSOFF = s.KSOFF := rfl
@[simp] theorem acceptCommand_CMDQ (w : Word) (s : State) : (acceptCommand w s).CMDQ = w := rfl
@[simp] theorem acceptCommand_constants (w : Word) (s : State) : (acceptCommand w s).constants = s.constants := rfl
@[simp] theorem acceptCommand_moves (w : Word) (s : State) : (acceptCommand w s).moves = s.moves := rfl
@[simp] theorem acceptCommand_rdata (w : Word) (s : State) : (acceptCommand w s).rdata = s.rdata := rfl
@[simp] theorem acceptCommand_draws (w : Word) (s : State) : (acceptCommand w s).draws = s.draws := rfl

/-! ## complete -/

@[simp] theorem complete_S (s : State) : (complete s).S = s.S := rfl
@[simp] theorem complete_KEYLEN (s : State) : (complete s).KEYLEN = s.KEYLEN := rfl
@[simp] theorem complete_IE (s : State) : (complete s).IE = s.IE := rfl
@[simp] theorem complete_BUSY (s : State) : (complete s).BUSY = false := rfl
@[simp] theorem complete_DONE (s : State) : (complete s).DONE = true := rfl
@[simp] theorem complete_ERR (s : State) : (complete s).ERR = s.ERR := rfl
@[simp] theorem complete_CONFIGURED (s : State) : (complete s).CONFIGURED = s.CONFIGURED := rfl
@[simp] theorem complete_KSEND (s : State) : (complete s).KSEND = s.KSEND := rfl
@[simp] theorem complete_ERRCODE (s : State) : (complete s).ERRCODE = s.ERRCODE := rfl
@[simp] theorem complete_ERRINFO (s : State) : (complete s).ERRINFO = s.ERRINFO := rfl
@[simp] theorem complete_KEY (s : State) : (complete s).KEY = s.KEY := rfl
@[simp] theorem complete_NONCE (s : State) : (complete s).NONCE = s.NONCE := rfl
@[simp] theorem complete_BLKCTR (s : State) : (complete s).BLKCTR = s.BLKCTR := rfl
@[simp] theorem complete_KSBLK (s : State) : (complete s).KSBLK = s.KSBLK := rfl
@[simp] theorem complete_KSOFF (s : State) : (complete s).KSOFF = s.KSOFF := rfl
@[simp] theorem complete_CMDQ (s : State) : (complete s).CMDQ = s.CMDQ := rfl
@[simp] theorem complete_constants (s : State) : (complete s).constants = s.constants := rfl
@[simp] theorem complete_moves (s : State) : (complete s).moves = s.moves := rfl
@[simp] theorem complete_rdata (s : State) : (complete s).rdata = s.rdata := rfl
@[simp] theorem complete_draws (s : State) : (complete s).draws = s.draws := rfl

/-! ## writeCtrl -/

@[simp] theorem writeCtrl_S (w : Word) (s : State) : (writeCtrl w s).S = s.S := rfl
@[simp] theorem writeCtrl_KEYLEN (w : Word) (s : State) : (writeCtrl w s).KEYLEN = w.extractLsb' 0 8 := rfl
@[simp] theorem writeCtrl_IE (w : Word) (s : State) : (writeCtrl w s).IE = w.getLsbD 8 := rfl
@[simp] theorem writeCtrl_BUSY (w : Word) (s : State) : (writeCtrl w s).BUSY = s.BUSY := rfl
@[simp] theorem writeCtrl_DONE (w : Word) (s : State) : (writeCtrl w s).DONE = s.DONE := rfl
@[simp] theorem writeCtrl_ERR (w : Word) (s : State) : (writeCtrl w s).ERR = s.ERR := rfl
@[simp] theorem writeCtrl_CONFIGURED (w : Word) (s : State) : (writeCtrl w s).CONFIGURED = false := rfl
@[simp] theorem writeCtrl_KSEND (w : Word) (s : State) : (writeCtrl w s).KSEND = s.KSEND := rfl
@[simp] theorem writeCtrl_ERRCODE (w : Word) (s : State) : (writeCtrl w s).ERRCODE = s.ERRCODE := rfl
@[simp] theorem writeCtrl_ERRINFO (w : Word) (s : State) : (writeCtrl w s).ERRINFO = s.ERRINFO := rfl
@[simp] theorem writeCtrl_KEY (w : Word) (s : State) : (writeCtrl w s).KEY = s.KEY := rfl
@[simp] theorem writeCtrl_NONCE (w : Word) (s : State) : (writeCtrl w s).NONCE = s.NONCE := rfl
@[simp] theorem writeCtrl_BLKCTR (w : Word) (s : State) : (writeCtrl w s).BLKCTR = s.BLKCTR := rfl
@[simp] theorem writeCtrl_KSBLK (w : Word) (s : State) : (writeCtrl w s).KSBLK = s.KSBLK := rfl
@[simp] theorem writeCtrl_KSOFF (w : Word) (s : State) : (writeCtrl w s).KSOFF = s.KSOFF := rfl
@[simp] theorem writeCtrl_CMDQ (w : Word) (s : State) : (writeCtrl w s).CMDQ = s.CMDQ := rfl
@[simp] theorem writeCtrl_constants (w : Word) (s : State) : (writeCtrl w s).constants = s.constants := rfl
@[simp] theorem writeCtrl_moves (w : Word) (s : State) : (writeCtrl w s).moves = s.moves := rfl
@[simp] theorem writeCtrl_rdata (w : Word) (s : State) : (writeCtrl w s).rdata = s.rdata := rfl
@[simp] theorem writeCtrl_draws (w : Word) (s : State) : (writeCtrl w s).draws = s.draws := rfl

/-! ## writeKsoff -/

@[simp] theorem writeKsoff_S (w : Word) (s : State) : (writeKsoff w s).S = s.S := rfl
@[simp] theorem writeKsoff_KEYLEN (w : Word) (s : State) : (writeKsoff w s).KEYLEN = s.KEYLEN := rfl
@[simp] theorem writeKsoff_IE (w : Word) (s : State) : (writeKsoff w s).IE = s.IE := rfl
@[simp] theorem writeKsoff_BUSY (w : Word) (s : State) : (writeKsoff w s).BUSY = s.BUSY := rfl
@[simp] theorem writeKsoff_DONE (w : Word) (s : State) : (writeKsoff w s).DONE = s.DONE := rfl
@[simp] theorem writeKsoff_ERR (w : Word) (s : State) : (writeKsoff w s).ERR = s.ERR := rfl
@[simp] theorem writeKsoff_CONFIGURED (w : Word) (s : State) : (writeKsoff w s).CONFIGURED = s.CONFIGURED := rfl
@[simp] theorem writeKsoff_KSEND (w : Word) (s : State) : (writeKsoff w s).KSEND = false := rfl
@[simp] theorem writeKsoff_ERRCODE (w : Word) (s : State) : (writeKsoff w s).ERRCODE = s.ERRCODE := rfl
@[simp] theorem writeKsoff_ERRINFO (w : Word) (s : State) : (writeKsoff w s).ERRINFO = s.ERRINFO := rfl
@[simp] theorem writeKsoff_KEY (w : Word) (s : State) : (writeKsoff w s).KEY = s.KEY := rfl
@[simp] theorem writeKsoff_NONCE (w : Word) (s : State) : (writeKsoff w s).NONCE = s.NONCE := rfl
@[simp] theorem writeKsoff_BLKCTR (w : Word) (s : State) : (writeKsoff w s).BLKCTR = s.BLKCTR := rfl
@[simp] theorem writeKsoff_KSBLK (w : Word) (s : State) : (writeKsoff w s).KSBLK = s.KSBLK := rfl
@[simp] theorem writeKsoff_KSOFF (w : Word) (s : State) : (writeKsoff w s).KSOFF = w.extractLsb' 0 6 := rfl
@[simp] theorem writeKsoff_CMDQ (w : Word) (s : State) : (writeKsoff w s).CMDQ = s.CMDQ := rfl
@[simp] theorem writeKsoff_constants (w : Word) (s : State) : (writeKsoff w s).constants = s.constants := rfl
@[simp] theorem writeKsoff_moves (w : Word) (s : State) : (writeKsoff w s).moves = s.moves := rfl
@[simp] theorem writeKsoff_rdata (w : Word) (s : State) : (writeKsoff w s).rdata = s.rdata := rfl
@[simp] theorem writeKsoff_draws (w : Word) (s : State) : (writeKsoff w s).draws = s.draws := rfl

/-! ## clearErr -/

@[simp] theorem clearErr_S (s : State) : (clearErr s).S = s.S := rfl
@[simp] theorem clearErr_KEYLEN (s : State) : (clearErr s).KEYLEN = s.KEYLEN := rfl
@[simp] theorem clearErr_IE (s : State) : (clearErr s).IE = s.IE := rfl
@[simp] theorem clearErr_BUSY (s : State) : (clearErr s).BUSY = s.BUSY := rfl
@[simp] theorem clearErr_DONE (s : State) : (clearErr s).DONE = s.DONE := rfl
@[simp] theorem clearErr_ERR (s : State) : (clearErr s).ERR = false := rfl
@[simp] theorem clearErr_CONFIGURED (s : State) : (clearErr s).CONFIGURED = s.CONFIGURED := rfl
@[simp] theorem clearErr_KSEND (s : State) : (clearErr s).KSEND = s.KSEND := rfl
@[simp] theorem clearErr_ERRCODE (s : State) : (clearErr s).ERRCODE = 0 := rfl
@[simp] theorem clearErr_ERRINFO (s : State) : (clearErr s).ERRINFO = 0 := rfl
@[simp] theorem clearErr_KEY (s : State) : (clearErr s).KEY = s.KEY := rfl
@[simp] theorem clearErr_NONCE (s : State) : (clearErr s).NONCE = s.NONCE := rfl
@[simp] theorem clearErr_BLKCTR (s : State) : (clearErr s).BLKCTR = s.BLKCTR := rfl
@[simp] theorem clearErr_KSBLK (s : State) : (clearErr s).KSBLK = s.KSBLK := rfl
@[simp] theorem clearErr_KSOFF (s : State) : (clearErr s).KSOFF = s.KSOFF := rfl
@[simp] theorem clearErr_CMDQ (s : State) : (clearErr s).CMDQ = s.CMDQ := rfl
@[simp] theorem clearErr_constants (s : State) : (clearErr s).constants = s.constants := rfl
@[simp] theorem clearErr_moves (s : State) : (clearErr s).moves = s.moves := rfl
@[simp] theorem clearErr_rdata (s : State) : (clearErr s).rdata = s.rdata := rfl
@[simp] theorem clearErr_draws (s : State) : (clearErr s).draws = s.draws := rfl

/-! ## respond -/

@[simp] theorem respond_S (w : Word) (s : State) : (respond w s).S = s.S := rfl
@[simp] theorem respond_KEYLEN (w : Word) (s : State) : (respond w s).KEYLEN = s.KEYLEN := rfl
@[simp] theorem respond_IE (w : Word) (s : State) : (respond w s).IE = s.IE := rfl
@[simp] theorem respond_BUSY (w : Word) (s : State) : (respond w s).BUSY = s.BUSY := rfl
@[simp] theorem respond_DONE (w : Word) (s : State) : (respond w s).DONE = s.DONE := rfl
@[simp] theorem respond_ERR (w : Word) (s : State) : (respond w s).ERR = s.ERR := rfl
@[simp] theorem respond_CONFIGURED (w : Word) (s : State) : (respond w s).CONFIGURED = s.CONFIGURED := rfl
@[simp] theorem respond_KSEND (w : Word) (s : State) : (respond w s).KSEND = s.KSEND := rfl
@[simp] theorem respond_ERRCODE (w : Word) (s : State) : (respond w s).ERRCODE = s.ERRCODE := rfl
@[simp] theorem respond_ERRINFO (w : Word) (s : State) : (respond w s).ERRINFO = s.ERRINFO := rfl
@[simp] theorem respond_KEY (w : Word) (s : State) : (respond w s).KEY = s.KEY := rfl
@[simp] theorem respond_NONCE (w : Word) (s : State) : (respond w s).NONCE = s.NONCE := rfl
@[simp] theorem respond_BLKCTR (w : Word) (s : State) : (respond w s).BLKCTR = s.BLKCTR := rfl
@[simp] theorem respond_KSBLK (w : Word) (s : State) : (respond w s).KSBLK = s.KSBLK := rfl
@[simp] theorem respond_KSOFF (w : Word) (s : State) : (respond w s).KSOFF = s.KSOFF := rfl
@[simp] theorem respond_CMDQ (w : Word) (s : State) : (respond w s).CMDQ = s.CMDQ := rfl
@[simp] theorem respond_constants (w : Word) (s : State) : (respond w s).constants = s.constants := rfl
@[simp] theorem respond_moves (w : Word) (s : State) : (respond w s).moves = s.moves := rfl
@[simp] theorem respond_rdata (w : Word) (s : State) : (respond w s).rdata = some w := rfl
@[simp] theorem respond_draws (w : Word) (s : State) : (respond w s).draws = s.draws := rfl

/-! ## endWrite -/

@[simp] theorem endWrite_S (s : State) : (endWrite s).S = s.S := rfl
@[simp] theorem endWrite_KEYLEN (s : State) : (endWrite s).KEYLEN = s.KEYLEN := rfl
@[simp] theorem endWrite_IE (s : State) : (endWrite s).IE = s.IE := rfl
@[simp] theorem endWrite_BUSY (s : State) : (endWrite s).BUSY = s.BUSY := rfl
@[simp] theorem endWrite_DONE (s : State) : (endWrite s).DONE = s.DONE := rfl
@[simp] theorem endWrite_ERR (s : State) : (endWrite s).ERR = s.ERR := rfl
@[simp] theorem endWrite_CONFIGURED (s : State) : (endWrite s).CONFIGURED = s.CONFIGURED := rfl
@[simp] theorem endWrite_KSEND (s : State) : (endWrite s).KSEND = s.KSEND := rfl
@[simp] theorem endWrite_ERRCODE (s : State) : (endWrite s).ERRCODE = s.ERRCODE := rfl
@[simp] theorem endWrite_ERRINFO (s : State) : (endWrite s).ERRINFO = s.ERRINFO := rfl
@[simp] theorem endWrite_KEY (s : State) : (endWrite s).KEY = s.KEY := rfl
@[simp] theorem endWrite_NONCE (s : State) : (endWrite s).NONCE = s.NONCE := rfl
@[simp] theorem endWrite_BLKCTR (s : State) : (endWrite s).BLKCTR = s.BLKCTR := rfl
@[simp] theorem endWrite_KSBLK (s : State) : (endWrite s).KSBLK = s.KSBLK := rfl
@[simp] theorem endWrite_KSOFF (s : State) : (endWrite s).KSOFF = s.KSOFF := rfl
@[simp] theorem endWrite_CMDQ (s : State) : (endWrite s).CMDQ = s.CMDQ := rfl
@[simp] theorem endWrite_constants (s : State) : (endWrite s).constants = s.constants := rfl
@[simp] theorem endWrite_moves (s : State) : (endWrite s).moves = s.moves := rfl
@[simp] theorem endWrite_rdata (s : State) : (endWrite s).rdata = none := rfl
@[simp] theorem endWrite_draws (s : State) : (endWrite s).draws = s.draws := rfl

/-! ## raise: the error record, and nothing else -/

@[simp] theorem raise_S (e : ErrorCode) (info : Word) (s : State) : (raise e info s).S = s.S := by
  unfold raise; split <;> rfl
@[simp] theorem raise_KEYLEN (e : ErrorCode) (info : Word) (s : State) : (raise e info s).KEYLEN = s.KEYLEN := by
  unfold raise; split <;> rfl
@[simp] theorem raise_IE (e : ErrorCode) (info : Word) (s : State) : (raise e info s).IE = s.IE := by
  unfold raise; split <;> rfl
@[simp] theorem raise_BUSY (e : ErrorCode) (info : Word) (s : State) : (raise e info s).BUSY = s.BUSY := by
  unfold raise; split <;> rfl
@[simp] theorem raise_DONE (e : ErrorCode) (info : Word) (s : State) : (raise e info s).DONE = s.DONE := by
  unfold raise; split <;> rfl
@[simp] theorem raise_ERR (e : ErrorCode) (info : Word) (s : State) : (raise e info s).ERR = true := by
  unfold raise; split <;> simp_all
@[simp] theorem raise_CONFIGURED (e : ErrorCode) (info : Word) (s : State) : (raise e info s).CONFIGURED = s.CONFIGURED := by
  unfold raise; split <;> rfl
@[simp] theorem raise_KSEND (e : ErrorCode) (info : Word) (s : State) : (raise e info s).KSEND = s.KSEND := by
  unfold raise; split <;> rfl
@[simp] theorem raise_ERRCODE (e : ErrorCode) (info : Word) (s : State) :
    (raise e info s).ERRCODE = if s.ERR then s.ERRCODE else e.code := by
  unfold raise; split <;> rfl
@[simp] theorem raise_ERRINFO (e : ErrorCode) (info : Word) (s : State) :
    (raise e info s).ERRINFO = if s.ERR then s.ERRINFO else info := by
  unfold raise; split <;> rfl
@[simp] theorem raise_KEY (e : ErrorCode) (info : Word) (s : State) : (raise e info s).KEY = s.KEY := by
  unfold raise; split <;> rfl
@[simp] theorem raise_NONCE (e : ErrorCode) (info : Word) (s : State) : (raise e info s).NONCE = s.NONCE := by
  unfold raise; split <;> rfl
@[simp] theorem raise_BLKCTR (e : ErrorCode) (info : Word) (s : State) : (raise e info s).BLKCTR = s.BLKCTR := by
  unfold raise; split <;> rfl
@[simp] theorem raise_KSBLK (e : ErrorCode) (info : Word) (s : State) : (raise e info s).KSBLK = s.KSBLK := by
  unfold raise; split <;> rfl
@[simp] theorem raise_KSOFF (e : ErrorCode) (info : Word) (s : State) : (raise e info s).KSOFF = s.KSOFF := by
  unfold raise; split <;> rfl
@[simp] theorem raise_CMDQ (e : ErrorCode) (info : Word) (s : State) : (raise e info s).CMDQ = s.CMDQ := by
  unfold raise; split <;> rfl
@[simp] theorem raise_constants (e : ErrorCode) (info : Word) (s : State) : (raise e info s).constants = s.constants := by
  unfold raise; split <;> rfl
@[simp] theorem raise_moves (e : ErrorCode) (info : Word) (s : State) : (raise e info s).moves = s.moves := by
  unfold raise; split <;> rfl
@[simp] theorem raise_rdata (e : ErrorCode) (info : Word) (s : State) : (raise e info s).rdata = s.rdata := by
  unfold raise; split <;> rfl
@[simp] theorem raise_draws (e : ErrorCode) (info : Word) (s : State) : (raise e info s).draws = s.draws := by
  unfold raise; split <;> rfl

/-! ## writeStatus: DONE and the error record, and nothing else -/

@[simp] theorem writeStatus_S (w : Word) (s : State) : (writeStatus w s).S = s.S := by
  unfold writeStatus; split <;> split <;> rfl
@[simp] theorem writeStatus_KEYLEN (w : Word) (s : State) : (writeStatus w s).KEYLEN = s.KEYLEN := by
  unfold writeStatus; split <;> split <;> rfl
@[simp] theorem writeStatus_IE (w : Word) (s : State) : (writeStatus w s).IE = s.IE := by
  unfold writeStatus; split <;> split <;> rfl
@[simp] theorem writeStatus_BUSY (w : Word) (s : State) : (writeStatus w s).BUSY = s.BUSY := by
  unfold writeStatus; split <;> split <;> rfl
@[simp] theorem writeStatus_DONE (w : Word) (s : State) :
    (writeStatus w s).DONE = if w.getLsbD 1 then false else s.DONE := by
  unfold writeStatus; split <;> split <;> rfl
@[simp] theorem writeStatus_ERR (w : Word) (s : State) :
    (writeStatus w s).ERR = if w.getLsbD 2 then false else s.ERR := by
  unfold writeStatus; split <;> split <;> rfl
@[simp] theorem writeStatus_CONFIGURED (w : Word) (s : State) : (writeStatus w s).CONFIGURED = s.CONFIGURED := by
  unfold writeStatus; split <;> split <;> rfl
@[simp] theorem writeStatus_KSEND (w : Word) (s : State) : (writeStatus w s).KSEND = s.KSEND := by
  unfold writeStatus; split <;> split <;> rfl
@[simp] theorem writeStatus_ERRCODE (w : Word) (s : State) :
    (writeStatus w s).ERRCODE = if w.getLsbD 2 then 0 else s.ERRCODE := by
  unfold writeStatus; split <;> split <;> rfl
@[simp] theorem writeStatus_ERRINFO (w : Word) (s : State) :
    (writeStatus w s).ERRINFO = if w.getLsbD 2 then 0 else s.ERRINFO := by
  unfold writeStatus; split <;> split <;> rfl
@[simp] theorem writeStatus_KEY (w : Word) (s : State) : (writeStatus w s).KEY = s.KEY := by
  unfold writeStatus; split <;> split <;> rfl
@[simp] theorem writeStatus_NONCE (w : Word) (s : State) : (writeStatus w s).NONCE = s.NONCE := by
  unfold writeStatus; split <;> split <;> rfl
@[simp] theorem writeStatus_BLKCTR (w : Word) (s : State) : (writeStatus w s).BLKCTR = s.BLKCTR := by
  unfold writeStatus; split <;> split <;> rfl
@[simp] theorem writeStatus_KSBLK (w : Word) (s : State) : (writeStatus w s).KSBLK = s.KSBLK := by
  unfold writeStatus; split <;> split <;> rfl
@[simp] theorem writeStatus_KSOFF (w : Word) (s : State) : (writeStatus w s).KSOFF = s.KSOFF := by
  unfold writeStatus; split <;> split <;> rfl
@[simp] theorem writeStatus_CMDQ (w : Word) (s : State) : (writeStatus w s).CMDQ = s.CMDQ := by
  unfold writeStatus; split <;> split <;> rfl
@[simp] theorem writeStatus_constants (w : Word) (s : State) : (writeStatus w s).constants = s.constants := by
  unfold writeStatus; split <;> split <;> rfl
@[simp] theorem writeStatus_moves (w : Word) (s : State) : (writeStatus w s).moves = s.moves := by
  unfold writeStatus; split <;> split <;> rfl
@[simp] theorem writeStatus_rdata (w : Word) (s : State) : (writeStatus w s).rdata = s.rdata := by
  unfold writeStatus; split <;> split <;> rfl
@[simp] theorem writeStatus_draws (w : Word) (s : State) : (writeStatus w s).draws = s.draws := by
  unfold writeStatus; split <;> split <;> rfl

/-! ## advance: the stream position and KSEND, and nothing else -/

@[simp] theorem advance_S (n : Nat) (s : State) : (advance n s).S = s.S := by
  simp only [advance]; split <;> rfl
@[simp] theorem advance_KEYLEN (n : Nat) (s : State) : (advance n s).KEYLEN = s.KEYLEN := by
  simp only [advance]; split <;> rfl
@[simp] theorem advance_IE (n : Nat) (s : State) : (advance n s).IE = s.IE := by
  simp only [advance]; split <;> rfl
@[simp] theorem advance_BUSY (n : Nat) (s : State) : (advance n s).BUSY = s.BUSY := by
  simp only [advance]; split <;> rfl
@[simp] theorem advance_DONE (n : Nat) (s : State) : (advance n s).DONE = s.DONE := by
  simp only [advance]; split <;> rfl
@[simp] theorem advance_ERR (n : Nat) (s : State) : (advance n s).ERR = s.ERR := by
  simp only [advance]; split <;> rfl
@[simp] theorem advance_CONFIGURED (n : Nat) (s : State) : (advance n s).CONFIGURED = s.CONFIGURED := by
  simp only [advance]; split <;> rfl
@[simp] theorem advance_ERRCODE (n : Nat) (s : State) : (advance n s).ERRCODE = s.ERRCODE := by
  simp only [advance]; split <;> rfl
@[simp] theorem advance_ERRINFO (n : Nat) (s : State) : (advance n s).ERRINFO = s.ERRINFO := by
  simp only [advance]; split <;> rfl
@[simp] theorem advance_KEY (n : Nat) (s : State) : (advance n s).KEY = s.KEY := by
  simp only [advance]; split <;> rfl
@[simp] theorem advance_NONCE (n : Nat) (s : State) : (advance n s).NONCE = s.NONCE := by
  simp only [advance]; split <;> rfl
@[simp] theorem advance_BLKCTR (n : Nat) (s : State) : (advance n s).BLKCTR = s.BLKCTR := by
  simp only [advance]; split <;> rfl
@[simp] theorem advance_CMDQ (n : Nat) (s : State) : (advance n s).CMDQ = s.CMDQ := by
  simp only [advance]; split <;> rfl
@[simp] theorem advance_constants (n : Nat) (s : State) : (advance n s).constants = s.constants := by
  simp only [advance]; split <;> rfl
@[simp] theorem advance_moves (n : Nat) (s : State) : (advance n s).moves = s.moves := by
  simp only [advance]; split <;> rfl
@[simp] theorem advance_rdata (n : Nat) (s : State) : (advance n s).rdata = s.rdata := by
  simp only [advance]; split <;> rfl
@[simp] theorem advance_draws (n : Nat) (s : State) : (advance n s).draws = s.draws := by
  simp only [advance]; split <;> rfl

/-! ## resetStep: every register at its reset value -/

@[simp] theorem resetStep_S (s : State) : (resetStep s).S = State.reset.S := rfl
@[simp] theorem resetStep_KEYLEN (s : State) : (resetStep s).KEYLEN = 0 := rfl
@[simp] theorem resetStep_IE (s : State) : (resetStep s).IE = false := rfl
@[simp] theorem resetStep_BUSY (s : State) : (resetStep s).BUSY = false := rfl
@[simp] theorem resetStep_DONE (s : State) : (resetStep s).DONE = false := rfl
@[simp] theorem resetStep_ERR (s : State) : (resetStep s).ERR = false := rfl
@[simp] theorem resetStep_CONFIGURED (s : State) : (resetStep s).CONFIGURED = false := rfl
@[simp] theorem resetStep_KSEND (s : State) : (resetStep s).KSEND = false := rfl
@[simp] theorem resetStep_ERRCODE (s : State) : (resetStep s).ERRCODE = 0 := rfl
@[simp] theorem resetStep_ERRINFO (s : State) : (resetStep s).ERRINFO = 0 := rfl
@[simp] theorem resetStep_KEY (s : State) : (resetStep s).KEY = State.reset.KEY := rfl
@[simp] theorem resetStep_NONCE (s : State) : (resetStep s).NONCE = State.reset.NONCE := rfl
@[simp] theorem resetStep_BLKCTR (s : State) : (resetStep s).BLKCTR = 0 := rfl
@[simp] theorem resetStep_KSBLK (s : State) : (resetStep s).KSBLK = 0 := rfl
@[simp] theorem resetStep_KSOFF (s : State) : (resetStep s).KSOFF = 0 := rfl
@[simp] theorem resetStep_CMDQ (s : State) : (resetStep s).CMDQ = 0 := rfl
@[simp] theorem resetStep_constants (s : State) : (resetStep s).constants = s.constants := rfl
@[simp] theorem resetStep_moves (s : State) : (resetStep s).moves = s.moves := rfl
@[simp] theorem resetStep_rdata (s : State) : (resetStep s).rdata = s.rdata := rfl
@[simp] theorem resetStep_draws (s : State) : (resetStep s).draws = s.draws := rfl

end Sys2Proof.Machine
end

