-- ==== Sys2Proof/Laws/Ops.lean ====
section
/-! SUPPORT. What each shared operation can do, said once: byte lanes, the error record, the host access, the commands and
the step. Later proofs cite these lemmas instead of unfolding the operations. -/

namespace Sys2Proof.Machine

/-! ## Words of S -/

@[simp] theorem readS_writeS_self (i : WordIndex) (v : Word) (s : State) : readS i (writeS i v s) = v := by
  simp [readS, writeS, Vector.get_eq_getElem]

theorem readS_writeS_other {i j : WordIndex} (h : i ≠ j) (v : Word) (s : State) :
    readS j (writeS i v s) = readS j s := by
  have : i.val ≠ j.val := fun e => h (Fin.ext e)
  simp [readS, writeS, Vector.get_eq_getElem, this]

/-! ## The error record -/

/-- The raise rule, field by field (60_exceptions.md R302). -/
theorem raise_eq (e : ErrorCode) (info : Word) (s : State) :
    raise e info s =
      { s with
        ERR := true
        ERRCODE := if s.ERR then s.ERRCODE else e.code
        ERRINFO := if s.ERR then s.ERRINFO else info } := by
  unfold raise
  split <;> rename_i h
  · cases s; simp_all
  · simp_all

/-- The access word by its numeric layout (60_exceptions.md R303). -/
theorem toNat_accessWord (a : Access) :
    (accessWord a).toNat = a.isWrite.toNat * 1024 + a.size.code.toNat * 256 + a.off.toNat := by
  have h := toNat_append (BitVec.ofBool a.isWrite ++ a.size.code) a.off
  have h' := toNat_append (BitVec.ofBool a.isWrite) a.size.code
  have e : (accessWord a).toNat = (BitVec.ofBool a.isWrite ++ a.size.code ++ a.off).toNat % 2 ^ 32 :=
    BitVec.toNat_setWidth ..
  have h1 := (BitVec.ofBool a.isWrite).isLt
  have h2 := a.size.code.isLt
  have h3 := a.off.isLt
  rw [e, h, h', BitVec.toNat_ofBool] at *
  omega

theorem accessWord_eq (a : Access) : accessWord a = errorInfoOf a := by
  apply BitVec.eq_of_toNat_eq
  rw [toNat_accessWord]
  rcases a with ⟨off, n⟩ | ⟨off, n, w⟩ <;> have := off.isLt <;> cases n <;>
    simp [errorInfoOf, Access.isWrite, Access.size, Access.off, Size.code, Size.toNat] <;> omega

/-- A refused access records its error and returns nothing but 0 (20_memory.md R60). -/
theorem refuse_eq (e : ErrorCode) (a : Access) (s : State) : refuse e a s = refusedAccess e.code a s := by
  unfold refuse
  rw [raise_eq, accessWord_eq]
  cases h : a.isWrite <;> simp [refusedAccess, respond, endWrite, h]

/-- A failed command records its error and completes (40_command_control.md R103). -/
theorem failCommand_eq (e : ErrorCode) (s : State) : failCommand e s = failedCommand e.code s := by
  unfold failCommand
  rw [raise_eq]
  rfl

/-! ## The host access -/

/-- Everything a host access can do, with the check that leads to it (20_memory.md R60). -/
theorem hostAccess_cases (a : Access) (s : State) :
    (accessRefused a = true ∧ hostAccess a s = refusedAccess 7 a s)
      ∨ (accessRefused a = false ∧ busyRefused a s = true ∧ hostAccess a s = refusedAccess 6 a s)
      ∨ (accessRefused a = false ∧ busyRefused a s = false ∧ s.BUSY = true ∧ a.isWrite = false ∧ a.reg.isS = true
          ∧ hostAccess a s = respondDraw a.size s)
      ∨ (accessRefused a = false ∧ busyRefused a s = false
          ∧ (s.BUSY = false ∨ a.isWrite = true ∨ a.reg.isS = false) ∧ hostAccess a s = performAccess a s) := by
  unfold hostAccess
  cases h1 : accessRefused a
  · cases h2 : busyRefused a s
    · cases h3 : s.BUSY <;> cases h4 : a.isWrite <;> cases h5 : a.reg.isS <;> simp
    · simp [refuse_eq, ErrorCode.code]
  · simp [refuse_eq, ErrorCode.code]

/-- Everything a KS_DATA read can do, once it is performed (44_keystream.md R199). -/
theorem readKs_cases (a : Access) (s : State) :
    (s.CONFIGURED = false ∧ readKs a s = refusedAccess 4 a s)
      ∨ (s.CONFIGURED = true ∧ pastEnd a.size.toNat s = true ∧ readKs a s = refusedAccess 5 a s)
      ∨ (s.CONFIGURED = true ∧ pastEnd a.size.toNat s = false
          ∧ readKs a s = respond (streamValue a.size s) (advance a.size.toNat s)) := by
  unfold readKs
  cases h1 : s.CONFIGURED <;> cases h2 : pastEnd a.size.toNat s <;> simp [refuse_eq, ErrorCode.code]

/-! ## Commands -/

/-- What no command touches: the registers only the host writes, CMDQ, the constant table and the model's own fields; and how
every command ends (40_command_control.md R101, R103). -/
structure SameOutside (s t : State) : Prop where
  keylen : t.KEYLEN = s.KEYLEN
  ie : t.IE = s.IE
  key : t.KEY = s.KEY
  nonce : t.NONCE = s.NONCE
  cmdq : t.CMDQ = s.CMDQ
  blkctr : t.BLKCTR = s.BLKCTR
  constants : t.constants = s.constants
  moves : t.moves = s.moves
  rdata : t.rdata = s.rdata
  draws : t.draws = s.draws
  busy : t.BUSY = false
  done : t.DONE = true

/-- Everything a command can do: it fails with its error, it writes S, or it starts a generation session. -/
theorem exec_cases (i : Instr) (s : State) :
    (∃ e : ErrorCode, exec i s = .next (failCommand e s))
      ∨ (∃ v : StateVec, exec i s = .next (complete (writeAllS v s)))
      ∨ (i = .configure ∧ (s.KEYLEN = 16 ∨ s.KEYLEN = 32)
          ∧ exec i s = .next (complete { s with CONFIGURED := true, KSBLK := 0, KSOFF := 0, KSEND := false })) := by
  cases i with
  | nop => exact .inr (.inl ⟨s.S, rfl⟩)
  | add32 ra rb rd => exact .inr (.inl ⟨_, rfl⟩)
  | xor32 ra rb rd => exact .inr (.inl ⟨_, rfl⟩)
  | rotl32 ra sh rd => exact .inr (.inl ⟨_, rfl⟩)
  | qround ra rb rc rd =>
    by_cases h : distinctIndices ra rb rc rd
    · exact .inr (.inl ⟨(quarterRoundAt ra rb rc rd s).S, by simp only [exec, execQround, if_pos h]; rfl⟩)
    · exact .inl ⟨.illegalOperand, by simp only [exec, execQround, if_neg h]⟩
  | rowround => exact .inr (.inl ⟨_, rfl⟩)
  | colround => exact .inr (.inl ⟨_, rfl⟩)
  | dblround => exact .inr (.inl ⟨_, rfl⟩)
  | permute => exact .inr (.inl ⟨_, rfl⟩)
  | hash => exact .inr (.inl ⟨_, rfl⟩)
  | expand =>
    cases h : s.CONFIGURED
    · exact .inl ⟨.notConfigured, by simp [exec, execExpand, h]⟩
    · exact .inr (.inl ⟨blockInput s.BLKCTR s, by simp [exec, execExpand, h]⟩)
  | getblock =>
    cases h : s.CONFIGURED
    · exact .inl ⟨.notConfigured, by simp [exec, execGetblock, h]⟩
    · exact .inr (.inl ⟨hash (blockInput s.BLKCTR s), by simp [exec, execGetblock, h]⟩)
  | configure =>
    by_cases h : s.KEYLEN = 16 ∨ s.KEYLEN = 32
    · exact .inr (.inr ⟨rfl, h, by simp only [exec, execConfigure, if_pos h]⟩)
    · exact .inl ⟨.badKeylen, by simp only [exec, execConfigure, if_neg h]⟩

/-- A command's next state agrees with the old one on what no command touches. -/
theorem exec_sameOutside {i : Instr} {s t : State} (h : exec i s = .next t) : SameOutside s t := by
  obtain ⟨e, he⟩ | ⟨v, he⟩ | ⟨-, -, he⟩ := exec_cases i s <;> rw [he] at h <;> cases h <;>
    constructor <;> simp [failCommand]

/-- A step of the ENGINE: none while idle, else the command's meaning or ILLEGAL_CMD (40_command_control.md R101, R102). -/
theorem engineMove_cases (s : State) :
    (s.BUSY = false ∧ engineMove s = .next s)
      ∨ (∃ i : Instr, s.BUSY = true ∧ decode s.CMDQ = .ok i ∧ engineMove s = exec i s)
      ∨ (∃ e : DecodeError, s.BUSY = true ∧ decode s.CMDQ = .error e ∧ engineMove s = .next (failedCommand 1 s)) := by
  unfold engineMove engineStep
  cases hb : s.BUSY
  · simp
  · cases hd : decode s.CMDQ with
    | ok i => simp
    | error e => simp [failCommand_eq, ErrorCode.code]

/-- One step is one move of one agent (00_scope.md R3), or the ENGINE's where no move is left. -/
theorem step_cases (s : State) :
    (s.moves = [] ∧ step s = engineMove s)
      ∨ (∃ rest, s.moves = .engine :: rest ∧ step s = engineMove { s with moves := rest })
      ∨ (∃ a rest, s.moves = .host a :: rest ∧ step s = .next (hostAccess a { s with moves := rest }))
      ∨ (∃ rest, s.moves = .reset :: rest ∧ step s = .next (resetStep { s with moves := rest })) := by
  unfold step
  split <;> simp_all

end Sys2Proof.Machine
end

