-- ==== Sys2Proof/Laws/PerInstr.lean ====
section
/-! SUPPORT. The facts stated per instruction: an assembler's word has no reserved bit and the instruction's own OP
(30_encoding.md R81, R83, R84, R91). -/

namespace Sys2Proof.Laws.EncodesLegally

/-- The OP value of a command (30_encoding.md R83). -/
def opOf : Instr → Nat
  | .nop => 0x00
  | .add32 _ _ _ => 0x01
  | .xor32 _ _ _ => 0x02
  | .rotl32 _ _ _ => 0x03
  | .qround _ _ _ _ => 0x08
  | .rowround => 0x09
  | .colround => 0x0A
  | .dblround => 0x0B
  | .permute => 0x0C
  | .hash => 0x10
  | .expand => 0x11
  | .getblock => 0x12
  | .configure => 0x18

/-- The encoded word's OP is the command's, and its reserved bits are 0. -/
def Statement (i : Instr) : Prop :=
  (encode i).toNat % 64 = opOf i ∧ (encode i).toNat / 64 % 4 = 0 ∧ (encode i).toNat / 2 ^ 29 = 0

/-- The value of `enc` where every argument is in its field's range. -/
theorem enc_toNat {op ra rb rc rd sh : Nat} (h0 : op < 64) (h1 : ra < 16) (h2 : rb < 16) (h3 : rc < 16) (h4 : rd < 16)
    (h5 : sh < 32) :
    (enc op ra rb rc rd sh).toNat = op + ra * 256 + rb * 4096 + rc * 65536 + rd * 1048576 + sh * 16777216 := by
  simp only [enc, BitVec.toNat_ofNat, Nat.shiftLeft_eq]
  omega

theorem nop : Statement .nop := by unfold Statement; decide

theorem add32 (ra rb rd : WordIndex) : Statement (.add32 ra rb rd) := by
  have := ra.isLt; have := rb.isLt; have := rd.isLt
  simp only [Statement, encode, opOf]
  rw [enc_toNat] <;> omega

theorem xor32 (ra rb rd : WordIndex) : Statement (.xor32 ra rb rd) := by
  have := ra.isLt; have := rb.isLt; have := rd.isLt
  simp only [Statement, encode, opOf]
  rw [enc_toNat] <;> omega

theorem rotl32 (ra : WordIndex) (sh : Amount) (rd : WordIndex) : Statement (.rotl32 ra sh rd) := by
  have := ra.isLt; have := sh.isLt; have := rd.isLt
  simp only [Statement, encode, opOf]
  rw [enc_toNat] <;> omega

theorem qround (ra rb rc rd : WordIndex) : Statement (.qround ra rb rc rd) := by
  have := ra.isLt; have := rb.isLt; have := rc.isLt; have := rd.isLt
  simp only [Statement, encode, opOf]
  rw [enc_toNat] <;> omega

theorem rowround : Statement .rowround := by unfold Statement; decide
theorem colround : Statement .colround := by unfold Statement; decide
theorem dblround : Statement .dblround := by unfold Statement; decide
theorem permute : Statement .permute := by unfold Statement; decide
theorem hash : Statement .hash := by unfold Statement; decide
theorem expand : Statement .expand := by unfold Statement; decide
theorem getblock : Statement .getblock := by unfold Statement; decide
theorem configure : Statement .configure := by unfold Statement; decide

end Sys2Proof.Laws.EncodesLegally
end

