-- ==== Sys2Proof/Tests/Slice0.lean ====
section
/-! SUPPORT. The model's own tests, with results from spec/95_test_vectors.md and the rules' examples, and the witnesses of the
statements' hypotheses. -/

namespace Sys2Proof.Tests

-- One after another: the kernel's evaluations, all at once, would each hold a thread and its stack.
set_option Elab.async false

open Sys2Proof Sys2Proof.Machine

/-! ## WellFormed smoke: a repeated index is refused, in each of the six pairs (R141) -/

theorem test_wf_ab : (Instr.qround 0 0 1 2).wellFormed = false := by decide
theorem test_wf_ac : (Instr.qround 0 1 0 2).wellFormed = false := by decide
theorem test_wf_ad : (Instr.qround 1 2 3 1).wellFormed = false := by decide
theorem test_wf_bc : (Instr.qround 0 1 1 2).wellFormed = false := by decide
theorem test_wf_bd : (Instr.qround 0 1 2 1).wellFormed = false := by decide
theorem test_wf_cd : (Instr.qround 0 1 2 2).wellFormed = false := by decide
theorem test_wf_accepts : (Instr.qround 5 9 13 1).wellFormed = true := by decide

/-! ## Decoding, the words written out field by field: RES1 SH RD RC RB RA RES0 OP (R81) -/

theorem test_decode_nop : decode 0b000_00000_0000_0000_0000_0000_00_000000 = .ok .nop := rfl
theorem test_decode_add32 : decode 0b000_00000_0100_0000_0011_0000_00_000001 = .ok (.add32 0 3 4) := rfl
theorem test_decode_xor32 : decode 0b000_00000_0111_0000_0110_0101_00_000010 = .ok (.xor32 5 6 7) := rfl
theorem test_decode_rotl32 : decode 0b000_01101_1111_0000_0000_1110_00_000011 = .ok (.rotl32 14 13 15) := rfl
theorem test_decode_qround : decode 0b000_00000_0001_1101_1001_0101_00_001000 = .ok (.qround 5 9 13 1) := rfl
theorem test_decode_rowround : decode 0b000_00000_0000_0000_0000_0000_00_001001 = .ok .rowround := rfl
theorem test_decode_colround : decode 0b000_00000_0000_0000_0000_0000_00_001010 = .ok .colround := rfl
theorem test_decode_dblround : decode 0b000_00000_0000_0000_0000_0000_00_001011 = .ok .dblround := rfl
theorem test_decode_permute : decode 0b000_00000_0000_0000_0000_0000_00_001100 = .ok .permute := rfl
theorem test_decode_hash : decode 0b000_00000_0000_0000_0000_0000_00_010000 = .ok .hash := rfl
theorem test_decode_expand : decode 0b000_00000_0000_0000_0000_0000_00_010001 = .ok .expand := rfl
theorem test_decode_getblock : decode 0b000_00000_0000_0000_0000_0000_00_010010 = .ok .getblock := rfl
theorem test_decode_configure : decode 0b000_00000_0000_0000_0000_0000_00_011000 = .ok .configure := rfl
/-- V-41-4, last row: RC is ignored. -/
theorem test_decode_ignores_rc : decode 0x002F1001 = .ok (.add32 0 1 2) := rfl
/-- V-40-2: reserved bits and unassigned OPs. -/
theorem test_decode_bit6 : decode 0x00000041 = .error .reservedBits := rfl
theorem test_decode_bit29 : decode 0x20400403 = .error .reservedBits := rfl
theorem test_decode_bit31 : decode 0x80000010 = .error .reservedBits := rfl
theorem test_decode_unassigned : decode 0x00000004 = .error .unassignedOpcode := rfl
/-- R91's examples. -/
theorem test_encode_add32 : encode (.add32 0 3 4) = 0x00403001 := by decide
theorem test_encode_qround : encode (.qround 5 9 13 1) = 0x001D9508 := by decide
/-- R88: the destination comes first. -/
theorem test_assemble_add32 : assemble "ADD32" [.word 4, .word 0, .word 3] = some (.add32 0 3 4) := rfl
/-- R89: QRCOL 1 and QRROW 3. -/
theorem test_qrcol : qrcol 1 = .qround 5 9 13 1 := by decide
theorem test_qrrow : qrrow 3 = .qround 15 12 13 14 := by decide

/-! ## Small states -/

/-- S = (x, y, 0, ..., 0), everything else as after reset. -/
def withTwo (x y : Word) : State := { State.reset with S := #v[x, y, 0, 0, 0, 0, 0, 0, 0, 0, 0, 0, 0, 0, 0, 0] }

/-- The state e0 of the vectors: S = (1, 0, ..., 0). -/
def e0 : State := withTwo 1 0

/-- The setting K2 of the vectors, with a key length, configured. -/
def k2 (keylen : BitVec 8) : State :=
  { State.reset with
    KEYLEN := keylen
    KEY := #v[0x04030201, 0x08070605, 0x0C0B0A09, 0x100F0E0D, 0xCCCBCAC9, 0xD0CFCECD, 0xD4D3D2D1, 0xD8D7D6D5]
    NONCE := #v[0x68676665, 0x6C6B6A69]
    CONFIGURED := true }

/-- K2 with the stream at a position. -/
def k2At (blk : BitVec 64) (off : BitVec 6) : State := { k2 32 with KSBLK := blk, KSOFF := off }

/-- A constant table that is not the default one. -/
def otherConstants : Config.Constants := { Config.defaultConstants with twoKey := #v[1, 2, 3, 4] }

/-- A word of S after the next step of a state. -/
def stepS (s : State) (i : WordIndex) : Option Word :=
  match step s with
  | .next t => some t.S[i]
  | .fault _ => none
  | .refused _ => none

/-- STATUS after the next step of a state. -/
def stepStatus (s : State) : Option (Word × Word) :=
  match step s with
  | .next t => some (statusWord t, t.ERRINFO)
  | .fault _ => none
  | .refused _ => none

/-! ## Commands, each one step on a placed word -/

/-- V-41-4. -/
theorem test_add32 : stepS ((withTwo 0xFFFFFFFF 1).withFetchWord 32 0x00201001) 2 = some 0 := by decide +kernel
theorem test_xor32 : stepS ((withTwo 0xFFFF0000 0x0F0F0F0F).withFetchWord 32 0x00001002) 0 = some 0xF0F00F0F := by
  decide +kernel
/-- V-41-3: 0xDEADBEEF rotated by 13 (ROTL32 s3, s0, #13). -/
theorem test_rotl32 : stepS ((withTwo 0xDEADBEEF 0).withFetchWord 32 0x0D300003) 3 = some 0xB7DDFBD5 := by decide +kernel
/-- V-42-7, rows 1 and 3. -/
theorem test_qround : stepS (e0.withFetchWord 32 0x00321008) 3 = some 0x20500000 := by decide +kernel
theorem test_qround_reversed : stepS (e0.withFetchWord 32 0x00012308) 3 = some 0x00048044 := by decide +kernel
/-- V-42-7, row 4, and V-40-2. -/
theorem test_qround_repeated : stepStatus (e0.withFetchWord 32 0x00210008) = some (0x206, 0x00210008) := by
  decide +kernel
/-- V-42-4: rowRound of e0. -/
theorem test_rowround : stepS (e0.withFetchWord 32 0x09) 1 = some 0x00000080 := by decide +kernel
/-- V-42-6: columnRound of e0. -/
theorem test_colround : stepS (e0.withFetchWord 32 0x0A) 4 = some 0x00000080 := by decide +kernel
/-- V-42-8: doubleRound of e0. -/
theorem test_dblround : stepS (e0.withFetchWord 32 0x0B) 15 = some 0x612A8020 := by decide +kernel
/-- V-42-11: PERMUTE of e0. -/
theorem test_permute : stepS (e0.withFetchWord 32 0x0C) 0 = some 0x1CD2C5B5 := by decide +kernel
/-- V-43-5: HASH of e0. -/
theorem test_hash : stepS (e0.withFetchWord 32 0x10) 0 = some 0x1CD2C5B6 := by decide +kernel
/-- V-44-1, V-44-2: EXPAND in both modes. -/
theorem test_expand_two_key : stepS ((k2 32).withFetchWord 32 0x11) 11 = some 0xCCCBCAC9 := by decide +kernel
theorem test_expand_one_key : stepS ((k2 16).withFetchWord 32 0x11) 5 = some 0x3120646E := by decide +kernel
/-- R190: a block with another table uses its own words. -/
theorem test_expand_other_constants :
    stepS ({ k2 32 with constants := otherConstants }.withFetchWord 32 0x11) 15 = some 4 := by decide +kernel
/-- V-44-3, V-44-6: GETBLOCK in both modes. -/
theorem test_getblock_two_key : stepS ((k2 32).withFetchWord 32 0x12) 15 = some 0x94BBAFA8 := by decide +kernel
theorem test_getblock_one_key : stepS ((k2 16).withFetchWord 32 0x12) 0 = some 0xB204E9CA := by decide +kernel
/-- V-44-11: CONFIGURE. -/
theorem test_configure : stepStatus ({ State.reset with KEYLEN := 32 }.withFetchWord 32 0x18) = some (0x0A, 0) := by
  decide +kernel
theorem test_configure_keylen : stepStatus (State.reset.withFetchWord 32 0x18) = some (0x306, 0x18) := by decide +kernel
/-- V-40-1, V-40-2: NOP, an unconfigured EXPAND and an illegal word. -/
theorem test_nop : stepStatus (State.reset.withFetchWord 32 0) = some (0x02, 0) := by decide +kernel
theorem test_expand_unconfigured : stepStatus (e0.withFetchWord 32 0x11) = some (0x406, 0x11) := by decide +kernel
theorem test_illegal : stepStatus (e0.withFetchWord 32 0x3F) = some (0x106, 0x3F) := by decide +kernel

/-! ## Host port -/

/-- V-20-1: a byte write changes its lane only. -/
theorem test_byte_write :
    (hostAccess (.write 0x46 .one 0x00) (withTwo 0 0xDEADBEEF)).S[1] = 0xDE00BEEF := by decide +kernel
theorem test_byte_read : (hostAccess (.read 0x45 .one) (withTwo 0 0xDEADBEEF)).rdata = some 0xBE := by decide +kernel
/-- V-20-2: three access words. -/
theorem test_halfword_write : (hostAccess (.write 0x42 .two 0) State.reset).ERRINFO = 0x542 := by decide +kernel
theorem test_cmd_read : (hostAccess (.read 0x08 .four) State.reset).ERRINFO = 0x208 := by decide +kernel
theorem test_ks_byte_off : (hostAccess (.read 0xBD .one) State.reset).ERRCODE = 7 := by decide +kernel
/-- V-20-4: in the BUSY window a write to S is refused, and a read of S raises nothing, whatever the draw. -/
theorem test_busy_write : (hostAccess (.write 0x40 .four 5) (acceptCommand 0x10 e0)).ERRINFO = 0x640 := by decide +kernel
theorem test_busy_read_s : (hostAccess (.read 0x40 .four) (acceptCommand 0x10 e0)).ERR = false := by rfl
/-- V-44-8, V-44-9, V-44-10: the stream port. -/
theorem test_stream_word : (hostAccess (.read 0xBC .four) (k2At 0 2)).rdata = some 0x32221977 := by decide +kernel
theorem test_stream_across_blocks : (hostAccess (.read 0xBC .four) (k2At 0 62)).rdata = some 0x01FF94BB := by
  decide +kernel
theorem test_stream_end : (hostAccess (.read 0xBC .four) (k2At (BitVec.allOnes 64) 60)).KSEND = true := by decide +kernel
theorem test_stream_overflow : (hostAccess (.read 0xBC .four) (k2At (BitVec.allOnes 64) 62)).ERRINFO = 0x2BC := by
  decide +kernel
/-- V-44-12: a key write ends the generator instance. -/
theorem test_key_write_deconfigures : (hostAccess (.write 0x80 .one 1) (k2 32)).CONFIGURED = false := by decide +kernel
/-- V-20-3: the bits of CTRL that are stored. -/
theorem test_ctrl_write : ctrlWord (hostAccess (.write 0x04 .four 0xFFFFFFFF) State.reset) = 0x1FF := by decide +kernel

/-! ## Witnesses: a concrete state and operands for the hypotheses of each statement that has any -/

/-- A command word just accepted, with the moves that follow. -/
def latched (w : Word) (s : State) (moves : List Move) : State := { acceptCommand w s with moves := moves }

theorem witness_IllegalWordsOnlyRecordTheError :
    (∃ s : State, s.BUSY = true ∧ s.CMDQ &&& 0xE00000C0 ≠ 0)
      ∧ ∀ op ∈ [0x04, 0x07, 0x0D, 0x0F, 0x13, 0x17, 0x19, 0x3F],
          (latched (BitVec.ofNat 32 op) e0 []).BUSY = true ∧ (latched (BitVec.ofNat 32 op) e0 []).CMDQ.toNat % 64 = op := by
  exact ⟨⟨latched 0x80000010 e0 [], rfl, by decide⟩, by decide⟩

theorem witness_StepRunsTheDecodedCommand :
    (∃ (s : State) (i : Instr) (rest : List Move), s.BUSY = true ∧ decode s.CMDQ = .ok i ∧ s.moves = .engine :: rest)
      ∧ (∃ (s : State) (i : Instr), s.BUSY = true ∧ decode s.CMDQ = .ok i ∧ s.moves = [])
      ∧ (∃ (s : State) (rest : List Move), s.BUSY = false ∧ s.moves = .engine :: rest)
      ∧ (∃ s : State, s.BUSY = false ∧ s.moves = [])
      ∧ ∃ (s : State) (a : Access) (rest : List Move), s.moves = .host a :: rest :=
  ⟨⟨latched 0x10 e0 [.engine], .hash, [], rfl, rfl, rfl⟩, ⟨latched 0x10 e0 [], .hash, rfl, rfl, rfl⟩,
    ⟨{ e0 with moves := [.engine] }, [], rfl, rfl⟩, ⟨e0, rfl, rfl⟩,
    ⟨{ e0 with moves := [rd8 0xBC] }, .read 0xBC .one, [], rfl⟩⟩

theorem witness_CommandChecksInOrder :
    commandCheck 0x20000001 e0 = some 1 ∧ commandCheck 0x04 e0 = some 1 ∧ commandCheck 0x00210008 e0 = some 2
      ∧ commandCheck 0x11 e0 = some 4 ∧ commandCheck 0x12 e0 = some 4 ∧ commandCheck 0x18 e0 = some 3
      ∧ commandCheck 0x00321008 e0 = none ∧ commandCheck 0x18 (k2 16) = none ∧ (latched 0x10 e0 []).BUSY = true := by
  decide +kernel

theorem witness_EveryLatchedCommandCompletes : (latched 0x10 e0 []).BUSY = true ∧ e0.BUSY = false := by decide

theorem witness_AcceptedCommandCompletes :
    ∃ s : State, s.BUSY = true ∧ Move.reset ∉ s.moves ∧ s.moves ≠ [] :=
  ⟨latched 0x10 e0 [rd32 0x0C, .engine, rd32 0x0C], rfl, by decide, by decide⟩

theorem witness_CommandAcceptance :
    e0.BUSY = false ∧ (latched 0x10 e0 []).BUSY = true ∧ (0x00000040 : Word) &&& 0xE00000C0 ≠ 0
      ∧ (0x0000003F : Word).toNat % 64 ∉ assignedOps := by decide

theorem witness_NopCommand :
    ∃ (s : State) (n : Nat) (rest : List Move), s.BUSY = false ∧ s.moves = cmdWord (encode .nop) :: waitFor n ++ rest
      ∧ s.ERR = false ∧ s.ERRCODE = 0 ∧ s.CONFIGURED = false ∧ s.KSEND = false :=
  ⟨{ e0 with moves := cmdWord (encode .nop) :: waitFor 2 ++ [rd8 0x40] }, 2, [rd8 0x40], rfl, rfl, by decide⟩

theorem witness_AddCommand : ∃ s : State, s.S[0] = 0xFFFFFFFF ∧ s.S[1] = 0x00000001 :=
  ⟨withTwo 0xFFFFFFFF 1, by decide⟩

theorem witness_XorCommand : ∃ s : State, s.S[0] = 0xFFFF0000 ∧ s.S[1] = 0x0F0F0F0F :=
  ⟨withTwo 0xFFFF0000 0x0F0F0F0F, by decide⟩

theorem witness_RotlCommand : ∃ s : State, s.S[4] = 0x00000001 :=
  ⟨{ State.reset with S := #v[0, 0, 0, 0, 1, 0, 0, 0, 0, 0, 0, 0, 0, 0, 0, 0] }, by decide⟩

theorem witness_EncodedAs :
    (0x0DF00F03 : Word) &&& 0xE00000FF = 0x03 ∧ (0x00000043 : Word) &&& 0x3F = 0x03
      ∧ (0x00000043 : Word) &&& 0xE00000C0 ≠ 0 ∧ (latched 0x43 e0 []).BUSY = true
      ∧ (latched 0x43 e0 []).CMDQ = 0x43 := by decide

theorem witness_QroundCommand :
    ([5, 9, 13, 1] : List WordIndex).Nodup ∧ ¬ ([15, 2, 3, 15] : List WordIndex).Nodup
      ∧ e0.S[0] = 1 ∧ e0.S[1] = 0 ∧ e0.S[2] = 0 ∧ e0.S[3] = 0 := by decide

theorem witness_RowroundCommand :
    ([2, 0, 3, 1] : List (Fin 4)).Perm [0, 1, 2, 3]
      ∧ ∃ s : State, s.S = #v[1, 0, 0, 0, 1, 0, 0, 0, 1, 0, 0, 0, 1, 0, 0, 0] :=
  ⟨by decide, { e0 with S := #v[1, 0, 0, 0, 1, 0, 0, 0, 1, 0, 0, 0, 1, 0, 0, 0] }, rfl⟩

theorem witness_HashOfBytesThroughTheHostPort :
    ∃ (s : State) (b : Vector Byte 64) (n : Nat) (rest : List Move), s.BUSY = false
      ∧ s.moves = wrBytes 0x40 b.toList ++ cmdWord (encode .hash) :: waitFor n ++ rest :=
  ⟨{ e0 with moves := wrBytes 0x40 (bytes e0.S).toList ++ cmdWord (encode .hash) :: waitFor 2 ++ [rd8 0x7F] },
    bytes e0.S, 2, [rd8 0x7F], rfl, rfl⟩

theorem witness_HashOfWordsThroughTheHostPort :
    ∃ (s : State) (b : Vector Byte 64) (n : Nat) (rest : List Move), s.BUSY = false
      ∧ s.moves = wrWords 0x40 (words b).toList ++ cmdWord (encode .hash) :: waitFor n ++ rest :=
  ⟨{ e0 with moves := wrWords 0x40 (words (bytes e0.S)).toList ++ cmdWord (encode .hash) :: waitFor 0 ++ [] },
    bytes e0.S, 0, [], rfl, rfl⟩

theorem witness_ConfigureCommand :
    (k2 16).KEYLEN = 16 ∧ (k2 32).KEYLEN = 32 ∧ e0.KEYLEN ≠ 16 ∧ e0.KEYLEN ≠ 32
      ∧ (k2 32).ERR = false ∧ (k2 32).ERRCODE = 0 ∧ Inv e0 ∧ Inv (k2 32) ∧ (k2 32).CONFIGURED = true := by decide

theorem witness_ExpandCommand : (k2 32).CONFIGURED = true ∧ e0.CONFIGURED = false := by decide

theorem witness_GetblockCommand :
    ∃ s s' t t' : State, s.CONFIGURED = true ∧ s'.CONFIGURED = true ∧ s.constants = s'.constants ∧ s.KEY = s'.KEY ∧ s.NONCE = s'.NONCE
      ∧ s.KEYLEN = s'.KEYLEN ∧ s.BLKCTR = s'.BLKCTR ∧ exec .getblock s = .next t ∧ exec .getblock s' = .next t'
      ∧ s.S ≠ s'.S :=
  ⟨k2 32, { k2 32 with S := e0.S }, _, _, rfl, rfl, rfl, rfl, rfl, rfl, rfl, rfl, rfl, by decide⟩

theorem witness_BlockCounterNeverAdvances :
    ∃ s t : State, step s = .next t ∧ t.BLKCTR ≠ s.BLKCTR :=
  ⟨{ e0 with moves := [wr32 0xA8 7] }, _, rfl, by decide +kernel⟩

theorem witness_KeystreamRead :
    (∃ (s : State) (n : Size), s.BUSY = false ∧ n ≠ .two ∧ s.CONFIGURED = false)
      ∧ (∃ (s : State) (n : Size), s.BUSY = false ∧ n ≠ .two ∧ s.CONFIGURED = true ∧ s.KSBLK.toNat = 2 ^ 64 - 1
          ∧ 64 < s.KSOFF.toNat + n.toNat)
      ∧ (∃ s : State, s.BUSY = false ∧ s.CONFIGURED = true ∧ s.KSEND = true)
      ∧ (∃ (s : State) (n : Size), s.BUSY = false ∧ n ≠ .two ∧ s.CONFIGURED = true ∧ s.KSEND = false
          ∧ s.KSBLK.toNat * 64 + s.KSOFF.toNat + n.toNat = 2 ^ 70)
      ∧ ∃ (s : State) (n : Size), s.BUSY = false ∧ n ≠ .two ∧ s.CONFIGURED = true ∧ s.KSEND = false
          ∧ s.KSBLK.toNat * 64 + s.KSOFF.toNat + n.toNat < 2 ^ 70 :=
  ⟨⟨e0, .one, by decide⟩, ⟨k2At (BitVec.allOnes 64) 61, .four, by decide⟩, ⟨{ k2 32 with KSEND := true }, by decide⟩,
    ⟨k2At (BitVec.allOnes 64) 60, .four, by decide⟩, ⟨k2At 0 62, .four, by decide⟩⟩

theorem witness_CounterOverflowIsFatalToTheRead :
    ∃ (s : State) (sizes : List Size) (rest : List Move), s.BUSY = false ∧ s.CONFIGURED = true ∧ s.KSEND = true
      ∧ s.moves = streamReads sizes ++ rest ∧ (∀ n ∈ sizes, n ≠ .two) ∧ sizes ≠ [] ∧ s.ERR = false :=
  ⟨{ k2At (BitVec.allOnes 64) 0 with KSEND := true, moves := streamReads [.one, .four] ++ [] }, [.one, .four], [],
    rfl, rfl, rfl, rfl, by decide, by decide, rfl⟩

theorem witness_GetKeystream :
    (∃ (s : State) (rest : List Move) (n : Nat), (s.KEYLEN = 16 ∨ s.KEYLEN = 32) ∧ s.BUSY = true
      ∧ decode s.CMDQ = .ok .configure
      ∧ s.moves = .engine :: streamReads (List.replicate (n + 1) .one) ++ rest ∧ n + 1 ≤ 2 ^ 70)
    ∧ ∃ (s : State) (rest : List Move) (n : Nat), (s.KEYLEN = 16 ∨ s.KEYLEN = 32) ∧ s.BUSY = true
      ∧ decode s.CMDQ = .ok .configure
      ∧ s.moves = .engine :: streamReads (List.replicate (n + 1) .four) ++ rest ∧ 4 * (n + 1) ≤ 2 ^ 70 :=
  ⟨⟨latched 0x18 (k2 32) (.engine :: streamReads (List.replicate 3 .one) ++ []), [], 2, by decide, rfl, rfl, rfl,
      by decide⟩,
    ⟨latched 0x18 (k2 16) (.engine :: streamReads (List.replicate 3 .four) ++ []), [], 2, by decide, rfl, rfl, rfl,
      by decide⟩⟩

theorem witness_StreamDependsOnKeyNonceAndPosition :
    ∃ (s s' : State) (sizes : List Size), s.constants = s'.constants ∧ s.BUSY = false ∧ s'.BUSY = false ∧ s.KEY = s'.KEY ∧ s.NONCE = s'.NONCE
      ∧ s.KEYLEN = s'.KEYLEN ∧ s.CONFIGURED = s'.CONFIGURED ∧ s.KSBLK = s'.KSBLK ∧ s.KSOFF = s'.KSOFF
      ∧ s.KSEND = s'.KSEND ∧ sizes ≠ [] ∧ s.moves = streamReads sizes ∧ s'.moves = streamReads sizes ∧ s.S ≠ s'.S :=
  ⟨{ k2 32 with moves := streamReads [.one, .four] }, { k2 32 with moves := streamReads [.one, .four], S := e0.S },
    [.one, .four], rfl, rfl, rfl, rfl, rfl, rfl, rfl, rfl, rfl, rfl, by decide, rfl, rfl, by decide⟩

theorem witness_ConstantTablesNeverChange :
    (∃ s t : State, step s = .next t ∧ s.constants ≠ Config.defaultConstants ∧ s.moves = [.reset])
      ∧ (∃ s t : State, runSteps 2 s = .next t ∧ s.BUSY = true) ∧ (k2 32).KEYLEN = 32 ∧ (k2 16).KEYLEN = 16 :=
  ⟨⟨{ State.resetWith otherConstants with moves := [.reset] }, _, rfl, by decide, rfl⟩,
    ⟨latched 0x12 (k2 32) [], _, rfl, rfl⟩, rfl, rfl⟩

theorem witness_StreamAndCommandsAreIndependent :
    ∃ (i : Instr) (s t : State), i ≠ .configure ∧ exec i s = .next t := ⟨.hash, e0, _, by decide, rfl⟩

theorem witness_CommandFrame :
    (∃ (i : Instr) (s t : State), exec i s = .next t ∧ t.ERR ≠ s.ERR)
      ∧ ∃ (s t : State), exec (.qround 0 1 2 3) s = .next t ∧ (7 : WordIndex) ∉ ([0, 1, 2, 3] : List WordIndex) :=
  ⟨⟨.expand, e0, _, rfl, by decide⟩, ⟨e0, _, rfl, by decide⟩⟩

theorem witness_MisalignedAndReservedAccessesAreRefused :
    (Access.read 0x40 .two).size = .two ∧ ((Access.read 0x41 .four).size = .four ∧ (0x41 : BitVec 8).toNat % 4 ≠ 0)
      ∧ ∀ o ∈ [0x14, 0x3F, 0xC0, 0xFF], 0x14 ≤ (BitVec.ofNat 8 o).toNat ∧ (BitVec.ofNat 8 o).toNat ≤ 0x3F
          ∨ 0xC0 ≤ (BitVec.ofNat 8 o).toNat := by decide

theorem witness_WrongSizeOrDirectionIsRefused :
    (Access.read 0x13 .one).size = .one ∧ (Access.write 0xB8 .one 0).size = .one ∧ (Access.read 0xBF .one).size = .one
      ∧ (Access.write 0x00 .four 0).isWrite = true ∧ (Access.write 0x10 .four 0).isWrite = true
      ∧ (Access.write 0xBC .four 0).isWrite = true ∧ (Access.read 0x08 .four).isWrite = false := by decide

theorem witness_WindowAccesses :
    windowOffset (.s 15) = some 0x7C ∧ windowOffset (.key 7) = some 0x9C ∧ windowOffset (.nonce 1) = some 0xA4
      ∧ windowOffset (.blkctr 1) = some 0xAC ∧ windowOffset (.ksblk 0) = some 0xB0 ∧ e0.BUSY = false
      ∧ (latched 0x10 e0 []).BUSY = true ∧ (Reg.key 7).isS = false := by decide

theorem witness_ControlRegisterWrites : e0.BUSY = false := rfl

theorem witness_BusyWindowAccesses :
    (latched 0x10 e0 []).BUSY = true
      ∧ (accessRefused (.write 0x08 .four 0) = false ∧ (Access.write 0x08 .four 0).reg ≠ .status)
      ∧ (accessRefused (.read 0xBC .one) = false ∧ (Access.read 0xBC .one).reg = .ksData)
      ∧ (accessRefused (.read 0x7F .one) = false ∧ (Access.read 0x7F .one).reg.isS = true)
      ∧ (accessRefused (.read 0x80 .four) = false ∧ (Access.read 0x80 .four).reg ≠ .ksData
          ∧ (Access.read 0x80 .four).reg.isS = false) := by decide +kernel

theorem witness_OnlyKeystreamReadsHaveSideEffects :
    decodeOffset 0xB8 ≠ .ksData ∧ accessRefused (.read 0xB8 .four) = false ∧ e0.BUSY = false
      ∧ (decodeOffset 0x0C).isS = false := by decide +kernel

theorem witness_FrozenInputs :
    ∃ (s : State) (accesses : List Access) (rest : List Move), s.BUSY = true
      ∧ s.moves = accesses.map .host ++ rest ∧ accesses ≠ [] :=
  ⟨latched 0x10 e0 [wr32 0x0C 4, rd32 0x40, .engine], [.write 0x0C .four 4, .read 0x40 .four], [.engine], rfl, rfl,
    by decide⟩

theorem witness_FirstErrorIsKept : e0.ERR = false ∧ { e0 with ERR := true }.ERR = true := by decide

theorem witness_ErrorInfoLayout :
    (∃ s t : State, s.BUSY = true ∧ s.ERR = false ∧ engineMove s = .next t ∧ t.ERR = true ∧ t.ERRCODE = 4)
      ∧ ∃ (s t : State) (a : Access), s.ERR = false ∧ hostAccess a s = t ∧ t.ERR = true ∧ t.ERRCODE = 4 :=
  ⟨⟨latched 0x11 e0 [], _, rfl, rfl, rfl, by decide +kernel, by decide +kernel⟩,
    ⟨e0, _, .read 0xBC .one, rfl, rfl, by decide +kernel, by decide +kernel⟩⟩

theorem witness_AccessErrorPriority :
    accessRefused (.read 0x08 .four) = true ∧ accessRefused (.write 0x40 .one 0) = false
      ∧ accessRefused (.read 0xBC .four) = false ∧ e0.ERR = false ∧ e0.BUSY = false ∧ e0.CONFIGURED = false
      ∧ (latched 0x10 e0 []).BUSY = true ∧ (latched 0x10 e0 []).ERR = false
      ∧ (accessRefused (.write 0x0C .four 0) = false ∧ (Access.write 0x0C .four 0).reg = .status)
      ∧ ((k2At (BitVec.allOnes 64) 61).KSEND = false
        ∧ 64 < (k2At (BitVec.allOnes 64) 61).KSOFF.toNat + (Access.read 0xBC .four).size.toNat
        ∧ (k2At (BitVec.allOnes 64) 60).KSOFF.toNat + (Access.read 0xBC .four).size.toNat ≤ 64)
      ∧ { k2 32 with KSEND := true }.KSEND = true ∧ { k2 32 with KSEND := true }.CONFIGURED = true := by decide +kernel

theorem witness_InterruptLine :
    ∃ s t : State, s.IE = true ∧ s.BUSY = true ∧ engineMove s = .next t ∧ s.ERR = false :=
  ⟨latched 0x00 { e0 with IE := true } [], _, rfl, rfl, rfl, rfl⟩

theorem witness_InterruptLine_idle : ∃ s : State, s.IE = true ∧ s.ERR = false ∧ s.BUSY = false ∧ s.DONE = true :=
  ⟨{ e0 with IE := true, DONE := true }, by decide⟩

theorem witness_ResetGivesTheResetValues :
    ∃ (s : State) (rest : List Move), s.moves = .reset :: rest ∧ s.BUSY = true :=
  ⟨latched 0x10 e0 [.reset, .engine], [.engine], rfl, rfl⟩

theorem witness_InvariantKept :
    ∃ s t : State, Inv s ∧ step s = .next t ∧ s.CONFIGURED = true ∧ s.ERR = true ∧ s.KSEND = true :=
  ⟨{ k2At (BitVec.allOnes 64) 0 with KSEND := true, ERR := true, ERRCODE := 5, ERRINFO := 0x2BC, moves := [rd8 0xBC] }, _,
    by decide, rfl, rfl, rfl, rfl⟩

theorem witness_FlagWriters_error :
    (∃ s t : State, step s = .next t ∧ s.ERR = false ∧ t.ERR = true ∧ s.BUSY = true ∧ t.BUSY = false)
      ∧ ∃ s t : State, step s = .next t ∧ s.ERR = false ∧ t.ERR = true ∧ s.moves.head? = some (rd32 0xBC) :=
  ⟨⟨latched 0x11 e0 [.engine], _, rfl, by decide +kernel⟩,
    ⟨{ k2At (BitVec.allOnes 64) 61 with moves := [rd32 0xBC] }, _, rfl, by decide +kernel⟩⟩

theorem witness_FlagWriters_cleared :
    (∃ s t : State, step s = .next t ∧ s.ERR = true ∧ t.ERR = false ∧ t.ERRCODE ≠ s.ERRCODE)
      ∧ (∃ s t : State, step s = .next t ∧ s.CONFIGURED = true ∧ t.CONFIGURED = false)
      ∧ ∃ s t : State, step s = .next t ∧ s.KSEND = true ∧ t.KSEND = false :=
  ⟨⟨{ e0 with ERR := true, ERRCODE := 7, moves := [wr32 0x0C 4] }, _, rfl, by decide +kernel⟩,
    ⟨{ k2 32 with moves := [wr8 0xA7 0] }, _, rfl, by decide +kernel⟩,
    ⟨{ k2 32 with KSEND := true, moves := [wr32 0xB8 0] }, _, rfl, by decide +kernel⟩⟩

theorem witness_FlagWriters :
    (∃ s t : State, step s = .next t ∧ s.BUSY = false ∧ t.BUSY = true ∧ s.DONE = true ∧ t.DONE = false)
      ∧ (∃ s t : State, step s = .next t ∧ s.BUSY = true ∧ t.BUSY = false ∧ s.CONFIGURED = false ∧ t.CONFIGURED = true)
      ∧ ∃ s t : State, step s = .next t ∧ s.KSEND = false ∧ t.KSEND = true :=
  ⟨⟨{ e0 with DONE := true, moves := [wr32 0x08 0x10] }, _, rfl, by decide +kernel⟩,
    ⟨latched 0x18 { k2 32 with CONFIGURED := false } [.engine], _, rfl, by decide +kernel⟩,
    ⟨{ k2At (BitVec.allOnes 64) 63 with moves := [rd8 0xBC] }, _, rfl, by decide +kernel⟩⟩

end Sys2Proof.Tests
end

/-! ## The register map and the access checks, inverted (20_memory.md R51, R53–R56) -/

namespace Sys2Proof.Machine

/-- The offset of the first byte of a register or window word (20_memory.md R51, R61); 0 for the reserved offsets, which
hold no register. -/
def Reg.base : Reg → Nat
  | .id => 0x00
  | .ctrl => 0x04
  | .cmd => 0x08
  | .status => 0x0C
  | .errinfo => 0x10
  | .s i => 0x40 + 4 * i.val
  | .key j => 0x80 + 4 * j.val
  | .nonce j => 0xA0 + 4 * j.val
  | .blkctr h => 0xA8 + 4 * h.val
  | .ksblk h => 0xB0 + 4 * h.val
  | .ksoff => 0xB8
  | .ksData => 0xBC
  | .reserved => 0

/-- Every register is one Word: an offset that decodes to it lies in its four bytes. -/
theorem decodeOffset_base {off : BitVec 8} (hr : decodeOffset off ≠ .reserved) :
    (decodeOffset off).base ≤ off.toNat ∧ off.toNat < (decodeOffset off).base + 4 := by
  have ho := off.isLt
  revert hr
  fun_cases decodeOffset off <;> intro hr
  case case6 | case14 => exact absurd rfl hr
  all_goals simp only [Reg.base, Fin.val_ofNat]; omega

/-- What an access that passes the access checks satisfies. -/
theorem accessRefused_eq_false {a : Access} :
    accessRefused a = false ↔
      a.size ≠ .two ∧ a.off.toNat % a.size.toNat = 0 ∧ a.reg ≠ .reserved
        ∧ (a.size = .one → a.reg.wordOnly = false) ∧ (a.size = .one → a.reg = .ksData → a.off = 0xBC)
        ∧ (a.isWrite = true → a.reg.readOnly = false) ∧ (a.isWrite = false → a.reg ≠ .cmd) := by
  simp [accessRefused, and_assoc]

/-- An accepted access to a control register is a Word access at the register's own offset. -/
theorem wordOnly_access {a : Access} (ha : accessRefused a = false) (hw : a.reg.wordOnly = true) :
    a.size = .four ∧ a.off = BitVec.ofNat 8 a.reg.base := by
  obtain ⟨htwo, halign, hres, hword, -, -, -⟩ := accessRefused_eq_false.mp ha
  have hsize : a.size = .four := by
    cases hs : a.size with
    | one => simp [hword hs] at hw
    | two => exact absurd hs htwo
    | four => rfl
  have hbase := decodeOffset_base hres
  rw [hsize, Size.toNat] at halign
  refine ⟨hsize, BitVec.eq_of_toNat_eq ?_⟩
  have hmod : (decodeOffset a.off).base % 4 = 0 := by
    cases decodeOffset a.off <;> simp [Reg.base]
  rw [BitVec.toNat_ofNat, Access.reg]
  omega

/-- The same for a write, whose size and offset are then fixed. -/
theorem wordOnly_write {off : BitVec 8} {n : Size} {w : Word} {r : Reg} (ha : accessRefused (.write off n w) = false)
    (hd : decodeOffset off = r) (hw : r.wordOnly = true) : n = .four ∧ off = BitVec.ofNat 8 r.base := by
  subst hd
  exact wordOnly_access ha hw

/-- An accepted access to KS_DATA is a read at 0xBC. -/
theorem ksData_access {a : Access} (ha : accessRefused a = false) (hr : a.reg = .ksData) : ∃ n, a = .read 0xBC n := by
  obtain ⟨htwo, halign, -, -, hbyte, hwrite, -⟩ := accessRefused_eq_false.mp ha
  have hoff : a.off = 0xBC := by
    cases hs : a.size with
    | one => exact hbyte hs hr
    | two => exact absurd hs htwo
    | four =>
      have hbase := decodeOffset_base (hr.trans_ne (by decide))
      rw [show decodeOffset a.off = .ksData from hr] at hbase
      rw [hs, Size.toNat] at halign
      apply BitVec.eq_of_toNat_eq
      simp [Reg.base] at hbase ⊢
      omega
  cases a with
  | read off n => exact ⟨n, by rw [← hoff]; rfl⟩
  | write off n w => simp [hr, Access.isWrite, Reg.readOnly] at hwrite

/-! ## The end of the stream (44_keystream.md R200, R201) -/

theorem pastEnd_eq_true {n : Nat} {s : State} :
    pastEnd n s = true ↔ s.KSEND = true ∨ s.KSBLK.toNat = 2 ^ 64 - 1 ∧ 64 < s.KSOFF.toNat + n := by
  simp [pastEnd, ← BitVec.toNat_inj]

/-- An advance sets KSEND only together with the end position. -/
theorem advance_KSEND {n : Nat} {s : State} (h : s.KSEND = false) (hend : (advance n s).KSEND = true) :
    (advance n s).KSBLK = BitVec.allOnes 64 ∧ (advance n s).KSOFF = 0 := by
  revert hend
  simp only [advance]
  split
  · simp
  · simp [h]

/-! ## The check of a command (40_command_control.md R102) -/

/-- The operand and state checks of a command that decodes: the error it raises, none where it succeeds. -/
def checkInstr (i : Instr) (s : State) : Option ErrorCode :=
  match i with
  | .qround ra rb rc rd => if distinctIndices ra rb rc rd then none else some .illegalOperand
  | .expand => if s.CONFIGURED then none else some .notConfigured
  | .getblock => if s.CONFIGURED then none else some .notConfigured
  | .configure => if s.KEYLEN = 16 ∨ s.KEYLEN = 32 then none else some .badKeylen
  | .nop | .add32 .. | .xor32 .. | .rotl32 .. | .rowround | .colround | .dblround | .permute | .hash => none

/-- A command whose check raises an error completes with it and does nothing else. -/
theorem exec_of_checkInstr_some {i : Instr} {s : State} {e : ErrorCode} (h : checkInstr i s = some e) :
    exec i s = .next (failCommand e s) := by
  cases i with
  | qround | expand | getblock | configure =>
    obtain ⟨hc, ⟨⟩⟩ := Option.ite_none_left_eq_some.mp h
    exact if_neg hc
  | _ => cases h

/-- A command that passes its check writes S, or, for CONFIGURE, starts a generation session. -/
theorem exec_of_checkInstr_none {i : Instr} {s : State} (h : checkInstr i s = none) :
    (∃ v : StateVec, exec i s = .next (complete (writeAllS v s)))
      ∨ (i = .configure ∧ (s.KEYLEN = 16 ∨ s.KEYLEN = 32)
          ∧ exec i s = .next (complete { s with CONFIGURED := true, KSBLK := 0, KSOFF := 0, KSEND := false })) := by
  cases i with
  | qround ra rb rc rd =>
    exact .inl ⟨(quarterRoundAt ra rb rc rd s).S, if_pos (by simpa [checkInstr] using h)⟩
  | expand | getblock => exact .inl ⟨_, if_pos (by simpa [checkInstr] using h)⟩
  | configure =>
    have hk : s.KEYLEN = 16 ∨ s.KEYLEN = 32 := by simpa [checkInstr, or_iff_not_imp_left] using h
    exact .inr ⟨rfl, hk, if_pos hk⟩
  | nop => exact .inl ⟨s.S, rfl⟩
  | _ => exact .inl ⟨_, rfl⟩

/-- OP by its numeric value (30_encoding.md R81). -/
theorem fieldOP_toNat (w : Word) : (fieldOP w).toNat = w.toNat % 64 := by
  simp [fieldOP, BitVec.extractLsb'_toNat]

/-- The decoder's test of the reserved bits is that of the raw-word check (30_encoding.md R84). -/
theorem reservedBits_iff (w : Word) :
    fieldRES0 w ≠ 0 ∨ fieldRES1 w ≠ 0 ↔ w.toNat / 2 ^ 6 % 4 ≠ 0 ∨ w.toNat / 2 ^ 29 ≠ 0 := by
  have := w.isLt
  simp only [fieldRES0, fieldRES1, ne_eq, ← BitVec.toNat_inj, BitVec.extractLsb'_toNat, Nat.shiftRight_eq_div_pow,
    BitVec.ofNat_eq_ofNat, BitVec.toNat_ofNat]
  omega

theorem extractLsb'_eq_indexAt (w : Word) (lo : Nat) :
    (⟨(w.extractLsb' lo 4).toNat, BitVec.isLt _⟩ : WordIndex) = indexAt w lo := by
  simp [indexAt, BitVec.extractLsb'_toNat, Nat.shiftRight_eq_div_pow]

/-- The two forms of QROUND's operand check (40_command_control.md R102). -/
theorem nodup_indexAt_iff (w : Word) :
    [indexAt w 8, indexAt w 12, indexAt w 16, indexAt w 20].Nodup
      ↔ distinctIndices (fieldRA w) (fieldRB w) (fieldRC w) (fieldRD w) := by
  simp only [fieldRA, fieldRB, fieldRC, fieldRD, extractLsb'_eq_indexAt]
  simp [and_assoc]

/-- The check on the raw word is the check of the command it decodes to. -/
theorem commandCheck_of_decode_ok {w : Word} {i : Instr} (h : decode w = .ok i) (s : State) :
    commandCheck w s = (checkInstr i s).map ErrorCode.code := by
  unfold decode at h
  split at h
  case isTrue => cases h
  case isFalse hres =>
    rw [reservedBits_iff] at hres
    rw [fieldOP_toNat] at h
    rw [commandCheck, if_neg hres]
    split at h <;> cases h <;> rename_i hop
    -- QROUND, then EXPAND and GETBLOCK, then CONFIGURE; every other command has no check of its own.
    case h_5 =>
      simp only [hop, nodup_indexAt_iff, checkInstr]
      by_cases hd : distinctIndices (fieldRA w) (fieldRB w) (fieldRC w) (fieldRD w) <;>
        simp [hd, assignedOps, ErrorCode.code]
    case h_11 | h_12 => cases hc : s.CONFIGURED <;> simp [hop, hc, assignedOps, checkInstr, ErrorCode.code]
    case h_13 =>
      by_cases h16 : s.KEYLEN = 16#8 <;> by_cases h32 : s.KEYLEN = 32#8 <;>
        simp [hop, h16, h32, assignedOps, checkInstr, ErrorCode.code]
    all_goals simp [hop, assignedOps, checkInstr]

/-- A word that is no command fails the check with ILLEGAL_CMD. -/
theorem commandCheck_of_decode_error {w : Word} {e : DecodeError} (h : decode w = .error e) (s : State) :
    commandCheck w s = some 1 := by
  unfold decode at h
  split at h
  case isTrue hres => exact if_pos ((reservedBits_iff w).mp hres)
  case isFalse hres =>
    rw [reservedBits_iff] at hres
    rw [fieldOP_toNat] at h
    split at h <;> cases h
    have hop : w.toNat % 64 ∉ assignedOps := by simp [assignedOps]; tauto
    rw [commandCheck, if_neg hres, if_pos hop]

/-! ## What one step can do (00_scope.md R3) -/

/-- The state with the next move taken off the schedule. -/
abbrev State.pop (s : State) : State := { s with moves := s.moves.tail }

/-- The next step is the ENGINE's: its own move, or the one it gets when the schedule is used up (log 2). -/
abbrev EngineTurn (s : State) : Prop := s.moves = [] ∨ s.moves.head? = some .engine

/-- The causes for which an access is refused: the access checks, the busy checks, and the two checks of a KS_DATA read
(20_memory.md R60; 44_keystream.md R199). -/
abbrev RefusalCause (a : Access) (s : State) : Prop :=
  accessRefused a = true ∨ busyRefused a s = true
    ∨ ∃ n : Size, a = .read 0xBC n ∧ (s.CONFIGURED = false ∨ s.KSEND = true
        ∨ s.KSBLK.toNat = 2 ^ 64 - 1 ∧ 64 < s.KSOFF.toNat + n.toNat)

/-- Everything a step can do, as a relation to the next state: one constructor for each event that the flag table of
10_state.md R47 tells apart, with the move and the checks that lead to it, and the events that change no flag (`idles`,
`reads`, `writesData`). -/
inductive StepEvent (s : State) : State → Prop where
  /-- The ENGINE has nothing to do (R48(d)). -/
  | idles (hturn : EngineTurn s) (hbusy : s.BUSY = false) : StepEvent s s.pop
  /-- A command completes and fails its check. -/
  | fails (e : ErrorCode) (hturn : EngineTurn s) (hbusy : s.BUSY = true)
      (hcheck : commandCheck s.CMDQ s = some e.code) : StepEvent s (failedCommand e.code s.pop)
  /-- A command other than CONFIGURE passes its check and completes. -/
  | computes (v : StateVec) (hturn : EngineTurn s) (hbusy : s.BUSY = true) : StepEvent s (complete (writeAllS v s.pop))
  /-- CONFIGURE passes its check and completes (44_keystream.md R194). -/
  | configures (hturn : EngineTurn s) (hbusy : s.BUSY = true) (hcmd : decode s.CMDQ = .ok .configure)
      (hkey : s.KEYLEN = 16 ∨ s.KEYLEN = 32) :
      StepEvent s (complete { s.pop with CONFIGURED := true, KSBLK := 0, KSOFF := 0, KSEND := false })
  /-- An access is refused. -/
  | refuses (e : ErrorCode) (a : Access) (hmove : s.moves.head? = some (.host a)) (hcause : RefusalCause a s) :
      StepEvent s (refusedAccess e.code a s.pop)
  /-- A register or window word is read, with or without a draw. -/
  | reads (w : Word) (d : Nat) : StepEvent s (respond w { s.pop with draws := d })
  /-- The keystream port is read (44_keystream.md R199). -/
  | streams (n : Size) (w : Word) (hmove : s.moves.head? = some (.host (.read 0xBC n))) (hend : s.KSEND = false) :
      StepEvent s (respond w (advance n.toNat s.pop))
  /-- S or BLKCTR is written, which has no side effect. -/
  | writesData (v : StateVec) (c : BitVec 64) : StepEvent s (endWrite { s.pop with S := v, BLKCTR := c })
  /-- CTRL is written. -/
  | writesCtrl (w : Word) (hmove : s.moves.head? = some (wr32 0x04 w)) : StepEvent s (endWrite (writeCtrl w s.pop))
  /-- KEY or NONCE is written. -/
  | writesKeying (k : Vector Word 8) (x : Vector Word 2) (off : BitVec 8) (n : Size) (w : Word)
      (hmove : s.moves.head? = some (.host (.write off n w))) (hlo : 0x80 ≤ off.toNat) (hhi : off.toNat ≤ 0xA7) :
      StepEvent s (endWrite { s.pop with KEY := k, NONCE := x, CONFIGURED := false })
  /-- CMD is written: a command word is accepted. -/
  | accepts (w : Word) (hmove : s.moves.head? = some (wr32 0x08 w)) : StepEvent s (endWrite (acceptCommand w s.pop))
  /-- STATUS is written. -/
  | clears (w : Word) (hmove : s.moves.head? = some (wr32 0x0C w)) : StepEvent s (endWrite (writeStatus w s.pop))
  /-- KSBLK or KSOFF is written. -/
  | seeks (b : BitVec 64) (o : BitVec 6) (off : BitVec 8) (n : Size) (w : Word)
      (hmove : s.moves.head? = some (.host (.write off n w))) (hlo : 0xB0 ≤ off.toNat) (hhi : off.toNat ≤ 0xB8) :
      StepEvent s (endWrite { s.pop with KSBLK := b, KSOFF := o, KSEND := false })
  /-- RESET acts. -/
  | resets (hmove : s.moves.head? = some .reset) : StepEvent s (resetStep s.pop)

/-- An accepted write is one of the write events. -/
theorem StepEvent.of_writeReg {s : State} {off : BitVec 8} {n : Size} {w : Word}
    (hmove : s.moves.head? = some (.host (.write off n w))) (ha : accessRefused (.write off n w) = false) :
    StepEvent s (endWrite (writeReg (decodeOffset off) off n w s.pop)) := by
  obtain ⟨-, -, hres, -, -, hreadOnly, -⟩ := accessRefused_eq_false.mp ha
  replace hreadOnly : (decodeOffset off).readOnly = false := hreadOnly rfl
  have hbase : (decodeOffset off).base ≤ off.toNat ∧ off.toNat < (decodeOffset off).base + 4 := decodeOffset_base hres
  cases hd : decodeOffset off with
  | id | errinfo | ksData => simp [hd, Reg.readOnly] at hreadOnly
  | reserved => exact absurd hd hres
  | s i | blkctr h => exact .writesData _ _
  | ctrl =>
    obtain ⟨rfl, rfl⟩ := wordOnly_write ha hd rfl
    exact .writesCtrl w hmove
  | cmd =>
    obtain ⟨rfl, rfl⟩ := wordOnly_write ha hd rfl
    exact .accepts w hmove
  | status =>
    obtain ⟨rfl, rfl⟩ := wordOnly_write ha hd rfl
    exact .clears w hmove
  | key j | nonce j =>
    simp only [hd, Reg.base] at hbase
    exact .writesKeying _ _ off n w hmove (by omega) (by omega)
  | ksblk h =>
    simp only [hd, Reg.base] at hbase
    exact .seeks _ _ off n w hmove (by omega) (by omega)
  | ksoff =>
    obtain ⟨rfl, rfl⟩ := wordOnly_write ha hd rfl
    exact .seeks _ _ _ _ w hmove (by decide) (by decide)

/-- A KS_DATA read that is performed: a refusal by one of its own checks, or stream bytes. -/
theorem StepEvent.of_readKs {s : State} {n : Size} (hmove : s.moves.head? = some (.host (.read 0xBC n))) :
    StepEvent s (readKs (.read 0xBC n) s.pop) := by
  obtain ⟨hc, h⟩ | ⟨-, hp, h⟩ | ⟨-, hp, h⟩ := readKs_cases (.read 0xBC n) s.pop <;> rw [h]
  · exact .refuses .notConfigured _ hmove (.inr (.inr ⟨n, rfl, .inl hc⟩))
  · exact .refuses .ctrOverflow _ hmove (.inr (.inr ⟨n, rfl, .inr (pastEnd_eq_true.mp hp)⟩))
  · exact .streams n _ hmove (Bool.eq_false_iff.mpr fun hend => by simp [pastEnd, hend] at hp)

/-- An access that is performed, with the access checks passed. -/
theorem StepEvent.of_performAccess {s : State} {a : Access} (hmove : s.moves.head? = some (.host a))
    (ha : accessRefused a = false) : StepEvent s (performAccess a s.pop) := by
  by_cases hks : a.reg = .ksData
  · obtain ⟨n, rfl⟩ := ksData_access ha hks
    exact of_readKs hmove
  · cases a with
    | read off n =>
      rw [performAccess, if_neg (show decodeOffset off ≠ .ksData from hks)]
      exact .reads _ s.draws
    | write off n w => exact of_writeReg hmove ha

/-- Every host access is one of the events of an access (20_memory.md R60). -/
theorem StepEvent.of_hostAccess {s : State} {a : Access} (hmove : s.moves.head? = some (.host a)) :
    StepEvent s (hostAccess a s.pop) := by
  obtain ⟨ha, h⟩ | ⟨-, hb, h⟩ | ⟨-, -, -, -, -, h⟩ | ⟨ha, -, -, h⟩ := hostAccess_cases a s.pop <;> rw [h]
  · exact .refuses .access a hmove (.inl ha)
  · exact .refuses .busy a hmove (.inr (.inl hb))
  · exact .reads _ _
  · exact of_performAccess hmove ha

/-- The ENGINE's step is one of the completion events, or none. -/
theorem StepEvent.of_engineMove {s t : State} (hturn : EngineTurn s) (h : engineMove s.pop = .next t) :
    StepEvent s t := by
  obtain ⟨hb, he⟩ | ⟨i, hb, hd, he⟩ | ⟨e, hb, hd, he⟩ := engineMove_cases s.pop <;> rw [he] at h
  · cases h
    exact .idles hturn hb
  · have hcheck : commandCheck s.CMDQ s = (checkInstr i s).map ErrorCode.code := commandCheck_of_decode_ok hd s
    cases hi : checkInstr i s with
    | some e =>
      rw [exec_of_checkInstr_some (s := s.pop) (e := e) hi, failCommand_eq] at h
      cases h
      exact .fails e hturn hb (by rw [hcheck, hi]; rfl)
    | none =>
      obtain ⟨v, hv⟩ | ⟨rfl, hkey, hv⟩ := exec_of_checkInstr_none (s := s.pop) hi <;> rw [hv] at h <;> cases h
      · exact .computes v hturn hb
      · exact .configures hturn hb hd hkey
  · cases h
    exact .fails .illegalCmd hturn hb (commandCheck_of_decode_error hd s)

/-- Every step is one of the events. -/
theorem StepEvent.of_step {s t : State} (h : step s = .next t) : StepEvent s t := by
  obtain ⟨hm, hs⟩ | ⟨rest, hm, hs⟩ | ⟨a, rest, hm, hs⟩ | ⟨rest, hm, hs⟩ := step_cases s <;> rw [hs] at h
  · have hpop : s.pop = s := by rw [State.pop, hm, List.tail_nil, ← hm]
    exact of_engineMove (.inl hm) (by rwa [hpop])
  all_goals
    have hpop : { s with moves := rest } = s.pop := by rw [State.pop, hm]; rfl
    rw [hpop] at h
  · exact of_engineMove (.inr (by rw [hm]; rfl)) h
  · cases h
    exact of_hostAccess (by rw [hm]; rfl)
  · cases h
    exact .resets (by rw [hm]; rfl)

/-! ## What each flag's change comes from (10_state.md R47)

In each lemma the arms that are named are the events that make the change; under every other event the flag of `t` is that
of `s`, or already has the other value. -/

namespace StepEvent

variable {s t : State} (ev : StepEvent s t)
include ev

theorem busy_set (h : s.BUSY = false) (h' : t.BUSY = true) : ∃ w : Word, s.moves.head? = some (wr32 0x08 w) := by
  cases ev with
  | accepts w hmove => exact ⟨w, hmove⟩
  | _ => simp_all [refusedAccess]

theorem busy_cleared (h : s.BUSY = true) (h' : t.BUSY = false) :
    s.moves = [] ∨ s.moves.head? = some .engine ∨ s.moves.head? = some .reset := by
  cases ev with
  | fails e hturn | computes v hturn | configures hturn => exact or_assoc.mp (.inl hturn)
  | resets hmove => exact .inr (.inr hmove)
  | _ => simp_all [refusedAccess]

theorem done_set (h : s.DONE = false) (h' : t.DONE = true) : s.BUSY = true ∧ t.BUSY = false := by
  cases ev with
  | fails _ _ hbusy | computes _ _ hbusy | configures _ hbusy => exact ⟨hbusy, rfl⟩
  | _ => simp_all [refusedAccess]

theorem done_cleared (h : s.DONE = true) (h' : t.DONE = false) :
    s.moves.head? = some .reset
      ∨ ∃ w : Word,
          s.moves.head? = some (wr32 0x08 w) ∨ s.moves.head? = some (wr32 0x0C w) ∧ w.getLsbD 1 = true := by
  cases ev with
  | accepts w hmove => exact .inr ⟨w, .inl hmove⟩
  | clears w hmove => exact .inr ⟨w, .inr ⟨hmove, by simpa [h] using h'⟩⟩
  | resets hmove => exact .inl hmove
  | _ => simp_all [refusedAccess, failedCommand]

theorem err_set (h : s.ERR = false) (h' : t.ERR = true) :
    (s.BUSY = true ∧ t.BUSY = false ∧ ∃ k, commandCheck s.CMDQ s = some k)
      ∨ ∃ a : Access, s.moves.head? = some (.host a) ∧ RefusalCause a s := by
  cases ev with
  | fails e _ hbusy hcheck => exact .inl ⟨hbusy, rfl, _, hcheck⟩
  | refuses e a hmove hcause => exact .inr ⟨a, hmove, hcause⟩
  | _ => simp_all

theorem err_cleared (h : s.ERR = true) (h' : t.ERR = false) :
    s.moves.head? = some .reset ∨ ∃ w : Word, s.moves.head? = some (wr32 0x0C w) ∧ w.getLsbD 2 = true := by
  cases ev with
  | clears w hmove => exact .inr ⟨w, hmove, by simpa [h] using h'⟩
  | resets hmove => exact .inl hmove
  | _ => simp_all [refusedAccess, failedCommand]

theorem errcode_changed (h : t.ERRCODE ≠ s.ERRCODE) :
    s.moves.head? = some .reset ∨ s.ERR = false ∧ t.ERR = true
      ∨ ∃ w : Word, s.moves.head? = some (wr32 0x0C w) ∧ w.getLsbD 2 = true := by
  cases ev with
  | fails | refuses => exact .inr (.inl ⟨Bool.eq_false_iff.mpr fun he => h (if_pos he), rfl⟩)
  | clears w hmove =>
    refine .inr (.inr ⟨w, hmove, ?_⟩)
    by_contra hw
    exact h ((writeStatus_ERRCODE w s.pop).trans (if_neg hw))
  | resets hmove => exact .inl hmove
  | _ => simp_all

theorem configured_set (h : s.CONFIGURED = false) (h' : t.CONFIGURED = true) :
    s.BUSY = true ∧ decode s.CMDQ = .ok .configure ∧ (s.KEYLEN = 16 ∨ s.KEYLEN = 32) := by
  cases ev with
  | configures _ hbusy hcmd hkey => exact ⟨hbusy, hcmd, hkey⟩
  | _ => simp_all [refusedAccess, failedCommand]

theorem configured_cleared (h : s.CONFIGURED = true) (h' : t.CONFIGURED = false) :
    s.moves.head? = some .reset
      ∨ ∃ (off : BitVec 8) (n : Size) (w : Word), s.moves.head? = some (.host (.write off n w))
          ∧ (off = 0x04 ∨ 0x80 ≤ off.toNat ∧ off.toNat ≤ 0xA7) := by
  cases ev with
  | writesCtrl w hmove => exact .inr ⟨_, _, w, hmove, .inl rfl⟩
  | writesKeying _ _ off n w hmove hlo hhi => exact .inr ⟨off, n, w, hmove, .inr ⟨hlo, hhi⟩⟩
  | resets hmove => exact .inl hmove
  | _ => simp_all [refusedAccess, failedCommand]

theorem ksend_set (h : s.KSEND = false) (h' : t.KSEND = true) :
    ∃ n : Size, s.moves.head? = some (.host (.read 0xBC n)) := by
  cases ev with
  | streams n _ hmove => exact ⟨n, hmove⟩
  | _ => simp_all [refusedAccess, failedCommand]

theorem ksend_cleared (h : s.KSEND = true) (h' : t.KSEND = false) :
    s.moves.head? = some .reset
      ∨ s.BUSY = true ∧ t.BUSY = false ∧ decode s.CMDQ = .ok .configure
      ∨ ∃ (off : BitVec 8) (n : Size) (w : Word), s.moves.head? = some (.host (.write off n w))
          ∧ 0xB0 ≤ off.toNat ∧ off.toNat ≤ 0xB8 := by
  cases ev with
  | configures _ hbusy hcmd => exact .inr (.inl ⟨hbusy, rfl, hcmd⟩)
  | seeks _ _ off n w hmove hlo hhi => exact .inr (.inr ⟨off, n, w, hmove, hlo, hhi⟩)
  | resets hmove => exact .inl hmove
  | _ => simp_all [refusedAccess, failedCommand]

end StepEvent

/-- Settles O59: each clause is what the one inversion of a step, `StepEvent`, says of that flag. -/
theorem flagWriters : Obligations.FlagWriters := by
  intro s t h
  have ev := StepEvent.of_step h
  exact ⟨ev.busy_set, ev.busy_cleared, ev.done_set, ev.done_cleared, ev.err_set, ev.err_cleared, ev.errcode_changed,
    ev.configured_set, ev.configured_cleared, ev.ksend_set, ev.ksend_cleared⟩

/-! ## The invariant (10_state.md R48; 60_exceptions.md R301) -/

theorem ErrorCode.code_range (e : ErrorCode) : 1 ≤ e.code.toNat ∧ e.code.toNat ≤ 7 := by
  cases e <;> decide

/-- The first-error rule keeps the range of ERRCODE. -/
theorem Inv.raised_code_range {s : State} (hs : Inv s) (e : ErrorCode) :
    1 ≤ (if s.ERR then s.ERRCODE else e.code).toNat ∧ (if s.ERR then s.ERRCODE else e.code).toNat ≤ 7 := by
  obtain ⟨-, -, -, hcode⟩ := hs
  split
  · exact hcode ‹_›
  · exact e.code_range

/-- The state after reset meets the invariant, whatever the constant table. -/
theorem inv_resetWith (cs : Config.Constants) : Inv (State.resetWith cs) := by simp [Inv, State.resetWith]

/-- Settles O57, for the default table as for any other. -/
theorem invariantAtReset : Obligations.InvariantAtReset := ⟨inv_resetWith _, inv_resetWith⟩

/-- Every event keeps the invariant: those that set ERR record a code in range, and those that set CONFIGURED or KSEND
make the clause about it true. -/
theorem StepEvent.inv {s t : State} (ev : StepEvent s t) (hs : Inv s) : Inv t := by
  have ⟨hkey, hclear, hend, hcode⟩ := hs
  cases ev with
  | fails e | refuses e => exact ⟨hkey, nofun, hend, fun _ => hs.raised_code_range e⟩
  | streams n w _ hnot =>
    refine ⟨by simpa using hkey, by simpa using hclear, fun h => ?_, by simpa using hcode⟩
    exact advance_KSEND hnot h
  | clears w => by_cases h : w.getLsbD 2 <;> simp_all [Inv]
  | idles | reads | writesData | computes | accepts => exact hs
  | writesCtrl | writesKeying => exact ⟨nofun, hclear, hend, hcode⟩
  | configures _ _ _ hlegal => exact ⟨fun _ => hlegal, hclear, nofun, hcode⟩
  | seeks => exact ⟨hkey, hclear, nofun, hcode⟩
  | resets => exact ⟨nofun, fun _ => ⟨rfl, rfl⟩, nofun, nofun⟩

/-- Settles O58: every step is a `StepEvent`, and each of them keeps the invariant. -/
theorem invariantKept : Obligations.InvariantKept := fun _ _ hs h => (StepEvent.of_step h).inv hs

/-! ## The interrupt line (10_state.md R46) -/

/-- An ENGINE step from a busy state sets DONE and leaves IE. -/
theorem engineMove_done {s t : State} (hb : s.BUSY = true) (h : engineMove s = .next t) :
    t.DONE = true ∧ t.IE = s.IE := by
  obtain ⟨hidle, -⟩ | ⟨i, -, -, he⟩ | ⟨e, -, -, he⟩ := engineMove_cases s
  · simp [hb] at hidle
  · have hout := exec_sameOutside (he ▸ h)
    exact ⟨hout.done, hout.ie⟩
  · cases he.symm.trans h
    exact ⟨rfl, rfl⟩

/-- An idle block accepts every command word (40_command_control.md R100). -/
theorem hostAccess_cmd {s : State} (hb : s.BUSY = false) (w : Word) :
    hostAccess (.write 0x08 .four w) s = endWrite (acceptCommand w s) := by
  have ha : accessRefused (.write 0x08 .four w) = false := by
    simp [accessRefused, Access.size, Access.off, Access.reg, decodeOffset, Size.toNat, Access.isWrite, Reg.readOnly]
  obtain ⟨h, -⟩ | ⟨-, h, -⟩ | ⟨-, -, h, -⟩ | ⟨-, -, -, h⟩ := hostAccess_cases (.write 0x08 .four w) s
  · cases ha.symm.trans h
  · simp [busyRefused, hb] at h
  · simp [hb] at h
  · exact h

/-- Settles O55: a completion sets DONE and keeps IE, and acceptance clears DONE. -/
theorem interruptLine : Obligations.InterruptLine := by
  refine ⟨fun s => by simp [irq], rfl, fun s t hie hb h => ?_, fun s hie herr hb w => ?_⟩
  · obtain ⟨hdone, hkept⟩ := engineMove_done hb h
    simp [irq, hdone, hkept, hie]
  · rw [hostAccess_cmd hb]
    simp [irq, herr]

end Sys2Proof.Machine

/-! ## The register map by ranges of offsets (20_memory.md R51, R55, R56) -/

namespace Sys2Proof.Machine

/-- The reserved offsets. -/
theorem decodeOffset_reserved_iff {off : BitVec 8} :
    decodeOffset off = .reserved ↔ 0x14 ≤ off.toNat ∧ off.toNat ≤ 0x3F ∨ 0xC0 ≤ off.toNat := by
  fun_cases decodeOffset off <;> simp <;> omega

/-- The offsets of the control registers. -/
theorem decodeOffset_wordOnly_iff {off : BitVec 8} :
    (decodeOffset off).wordOnly = true ↔ off.toNat < 0x14 ∨ 0xB8 ≤ off.toNat ∧ off.toNat ≤ 0xBB := by
  fun_cases decodeOffset off <;> simp [Reg.wordOnly] <;> omega

/-- The offsets of ID, ERRINFO and KS_DATA. -/
theorem decodeOffset_readOnly_iff {off : BitVec 8} :
    (decodeOffset off).readOnly = true ↔
      off.toNat ≤ 0x03 ∨ 0x10 ≤ off.toNat ∧ off.toNat ≤ 0x13 ∨ 0xBC ≤ off.toNat ∧ off.toNat ≤ 0xBF := by
  fun_cases decodeOffset off <;> simp [Reg.readOnly] <;> omega

/-- A register is what its own four offsets decode to. -/
theorem decodeOffset_eq_iff {off : BitVec 8} {r : Reg} (hr : r ≠ .reserved) :
    decodeOffset off = r ↔ r.base ≤ off.toNat ∧ off.toNat < r.base + 4 := by
  constructor
  · rintro rfl
    exact decodeOffset_base hr
  · intro h
    cases r with
    | reserved => exact absurd rfl hr
    | s i | key i | nonce i | blkctr i | ksblk i =>
      have hi := i.isLt
      simp only [Reg.base] at h
      simp (disch := omega) only [decodeOffset, if_pos, if_neg, Reg.s.injEq, Reg.key.injEq, Reg.nonce.injEq,
        Reg.blkctr.injEq, Reg.ksblk.injEq, Fin.ext_iff, Fin.val_ofNat]
      omega
    | _ =>
      simp only [Reg.base] at h
      simp (disch := omega) only [decodeOffset, if_pos, if_neg]

/-! ## What each access does (20_memory.md R60) -/

theorem hostAccess_of_accessRefused {a : Access} (h : accessRefused a = true) (s : State) :
    hostAccess a s = refusedAccess 7 a s := by
  simpa [h] using hostAccess_cases a s

theorem hostAccess_of_busyRefused {a : Access} {s : State} (ha : accessRefused a = false)
    (h : busyRefused a s = true) : hostAccess a s = refusedAccess 6 a s := by
  simpa [ha, h] using hostAccess_cases a s

/-- An access that passes both checks and is no draw is performed. -/
theorem hostAccess_of_passed {a : Access} {s : State} (ha : accessRefused a = false) (hb : busyRefused a s = false)
    (hs : s.BUSY = false ∨ a.isWrite = true ∨ a.reg.isS = false) : hostAccess a s = performAccess a s := by
  obtain ⟨h, -⟩ | ⟨-, h, -⟩ | ⟨-, -, hbusy, hr, hS, -⟩ | ⟨-, -, -, h⟩ := hostAccess_cases a s
  · cases ha.symm.trans h
  · cases hb.symm.trans h
  · simp [hbusy, hr, hS] at hs
  · exact h

/-- A read outside KS_DATA is never refused with BUSY. -/
theorem busyRefused_read {off : BitVec 8} (hks : decodeOffset off ≠ .ksData) (n : Size) (s : State) :
    busyRefused (.read off n) s = false := by
  simp [busyRefused, Access.isWrite, Access.reg, Access.off, hks]

/-- A read of the S window while BUSY = 1 is a draw (R68(c)). -/
theorem hostAccess_draw {off : BitVec 8} {n : Size} {s : State} (ha : accessRefused (.read off n) = false)
    (hb : s.BUSY = true) (hs : (decodeOffset off).isS = true) :
    hostAccess (.read off n) s = respondDraw n s := by
  have hks : decodeOffset off ≠ .ksData := fun h => by simp [h, Reg.isS] at hs
  simpa [ha, busyRefused_read hks, hb, hs, Access.isWrite, Access.reg, Access.off, Access.size]
    using hostAccess_cases (.read off n) s

/-- Every other accepted read outside KS_DATA returns what is read and changes nothing (R61, R63, R68(d)). -/
theorem hostAccess_read {off : BitVec 8} {n : Size} {s : State} (ha : accessRefused (.read off n) = false)
    (hks : decodeOffset off ≠ .ksData) (hs : s.BUSY = false ∨ (decodeOffset off).isS = false) :
    hostAccess (.read off n) s = respond (readReg (decodeOffset off) off n s) s := by
  rw [hostAccess_of_passed ha (busyRefused_read hks n s) (hs.imp_right .inr), performAccess, if_neg hks]

/-- An accepted write is performed in an idle block, and a STATUS write at any time (R62, R64, R65, R67). -/
theorem hostAccess_write {off : BitVec 8} {n : Size} {w : Word} {s : State}
    (ha : accessRefused (.write off n w) = false) (hb : s.BUSY = false ∨ decodeOffset off = .status) :
    hostAccess (.write off n w) s = endWrite (writeReg (decodeOffset off) off n w s) := by
  have hbusy : busyRefused (.write off n w) s = false := by
    obtain hb | hst := hb
    · simp [busyRefused, hb]
    · simp [busyRefused, Access.reg, Access.off, Access.isWrite, hst]
  exact hostAccess_of_passed ha hbusy (.inr (.inl rfl))

/-! ## Refused accesses (20_memory.md R53–R56) -/

/-- Settles O41: an accepted access has another size, is aligned, and addresses a register. -/
theorem misalignedAndReservedAccessesAreRefused : Obligations.MisalignedAndReservedAccessesAreRefused := by
  intro s a h
  refine hostAccess_of_accessRefused (Bool.of_not_eq_false fun ha => ?_) s
  obtain ⟨htwo, halign, hres, -⟩ := accessRefused_eq_false.mp ha
  obtain hs | ⟨hs, hmis⟩ | hoff := h
  · exact htwo hs
  · exact hmis (by rwa [hs] at halign)
  · exact hres (decodeOffset_reserved_iff.mpr hoff)

/-- Settles O42: an accepted access meets the size and the direction of its register. -/
theorem wrongSizeOrDirectionIsRefused : Obligations.WrongSizeOrDirectionIsRefused := by
  intro s a h
  refine hostAccess_of_accessRefused (Bool.of_not_eq_false fun ha => ?_) s
  obtain ⟨-, -, -, hword, hks, hwrite, hread⟩ := accessRefused_eq_false.mp ha
  obtain ⟨hone, hoff⟩ | ⟨hw, hoff⟩ | ⟨hr, hoff⟩ := h
  · obtain hctl | hctl | hoff := hoff
    · exact Bool.eq_false_iff.mp (hword hone) (decodeOffset_wordOnly_iff.mpr (.inl hctl))
    · exact Bool.eq_false_iff.mp (hword hone) (decodeOffset_wordOnly_iff.mpr (.inr hctl))
    · have hreg : a.reg = .ksData := (decodeOffset_eq_iff (by decide)).mpr (by simp [Reg.base]; omega)
      simp [hks hone hreg] at hoff
  · exact Bool.eq_false_iff.mp (hwrite hw) (decodeOffset_readOnly_iff.mpr hoff)
  · exact hread hr ((decodeOffset_eq_iff (by decide)).mpr (by simp [Reg.base]; omega))

/-! ## The words of a data window: their offsets and their class (20_memory.md R51, R61) -/

/-- A window word begins at its offset, which is a multiple of 4. -/
theorem windowOffset_toNat {r : Reg} {off : BitVec 8} (h : windowOffset r = some off) :
    off.toNat = r.base ∧ r.base % 4 = 0 ∧ r.base < 0xB8 := by
  cases r with
  | s i | key i | nonce i | blkctr i | ksblk i =>
    have hi := i.isLt
    cases h
    simp only [Reg.base, BitVec.toNat_ofNat]
    omega
  | _ => cases h

/-- A window word takes accesses of either size in either direction. -/
theorem windowOffset_class {r : Reg} {off : BitVec 8} (h : windowOffset r = some off) :
    r.wordOnly = false ∧ r.readOnly = false ∧ r ≠ .cmd ∧ r ≠ .ksData ∧ r ≠ .reserved := by
  cases r with
  | s i | key i | nonce i | blkctr i | ksblk i => simp [Reg.wordOnly, Reg.readOnly]
  | _ => cases h

theorem toNat_windowByte {r : Reg} {off : BitVec 8} (h : windowOffset r = some off) (k : Fin 4) :
    (off + BitVec.ofNat 8 k.val).toNat = r.base + k.val := by
  obtain ⟨hoff, -, hlt⟩ := windowOffset_toNat h
  rw [BitVec.toNat_add, BitVec.toNat_ofNat, hoff]
  omega

/-- Byte k of a window word is at its offset + k. -/
theorem decodeOffset_windowByte {r : Reg} {off : BitVec 8} (h : windowOffset r = some off) (k : Fin 4) :
    decodeOffset (off + BitVec.ofNat 8 k.val) = r := by
  obtain ⟨-, -, -, -, hres⟩ := windowOffset_class h
  rw [decodeOffset_eq_iff hres, toNat_windowByte h]
  omega

theorem decodeOffset_window {r : Reg} {off : BitVec 8} (h : windowOffset r = some off) : decodeOffset off = r := by
  simpa using decodeOffset_windowByte h 0

/-- Byte k of a window word is lane k of the word (R52). -/
theorem toNat_windowByte_mod {r : Reg} {off : BitVec 8} (h : windowOffset r = some off) (k : Fin 4) :
    (off + BitVec.ofNat 8 k.val).toNat % 4 = k.val := by
  obtain ⟨-, hmod, -⟩ := windowOffset_toNat h
  rw [toNat_windowByte h]
  omega

/-- The access checks let an aligned byte or word access to a window word pass. -/
theorem accessRefused_window {r : Reg} {off : BitVec 8} {a : Access} (h : windowOffset r = some off) (hr : a.reg = r)
    (hsize : a.size = .one ∨ a.size = .four ∧ a.off = off) : accessRefused a = false := by
  obtain ⟨hword, hreadOnly, hcmd, hks, hres⟩ := windowOffset_class h
  obtain ⟨hoff, hmod, -⟩ := windowOffset_toNat h
  have hsz : a.size ≠ .two ∧ a.off.toNat % a.size.toNat = 0 := by
    obtain hs | ⟨hs, ho⟩ := hsize
    · simp [hs, Size.toNat, Nat.mod_one]
    · simp [hs, ho, hoff, hmod, Size.toNat]
  subst hr
  exact accessRefused_eq_false.mpr
    ⟨hsz.1, hsz.2, hres, fun _ => hword, fun _ hk => absurd hk hks, fun _ => hreadOnly, fun _ => hcmd⟩

/-! ## Reading and writing a window word (20_memory.md R52, R61, R62) -/

/-- The two forms of a byte of a Word. -/
theorem lane_eq_byteOf (w : Word) (k : Nat) : lane w k = byteOf w k := by
  apply BitVec.eq_of_toNat_eq
  simp [toNat_lane, byteOf, Nat.pow_mul]

/-- The two forms of a word of a 64-bit register. -/
theorem half_eq_ofNat (v : BitVec 64) (h : Fin 2) : half v h = BitVec.ofNat 32 (v.toNat / 2 ^ (32 * h.val)) := by
  apply BitVec.eq_of_toNat_eq
  simp [toNat_half]

/-- The two forms of a 64-bit register with one word replaced. -/
theorem withHalf_eq_replaceHalf (v : BitVec 64) (h : Fin 2) (w : Word) : withHalf v h w = replaceHalf v h w := by
  apply BitVec.eq_of_toNat_eq
  have hv := v.isLt
  have hw := w.isLt
  match h with
  | 0 =>
    rw [toNat_withHalf_low, replaceHalf, if_pos rfl, BitVec.toNat_ofNat]
    omega
  | 1 =>
    rw [toNat_withHalf_high, replaceHalf, if_neg (by decide), BitVec.toNat_ofNat]
    omega

/-- A second write of a half overwrites the first. -/
theorem withHalf_withHalf (v : BitVec 64) (h : Fin 2) (x w : Word) :
    withHalf (withHalf v h x) h w = withHalf v h w := by
  have hother {k : Fin 2} (hk : k ≠ h) : half (withHalf v h x) k = half v k := by rw [half_withHalf, if_neg hk]
  by_cases h0 : h = 0
  · subst h0
    rw [withHalf, if_pos rfl, hother (by decide), withHalf, if_pos rfl]
  · rw [withHalf, if_neg h0, hother (Ne.symm h0), withHalf, if_neg h0]

theorem readWord_window {r : Reg} {off : BitVec 8} (h : windowOffset r = some off) (s : State) :
    readWord r s = windowWord r s := by
  cases r with
  | s i | key i | nonce i => rfl
  | blkctr i | ksblk i => exact half_eq_ofNat _ i
  | _ => cases h

theorem writeReg_window {r : Reg} {off : BitVec 8} (h : windowOffset r = some off) (o : BitVec 8) (n : Size) (v : Word)
    (s : State) : endWrite (writeReg r o n v s) = windowStore r (mergeWrite o n v (windowWord r s)) s := by
  rw [← readWord_window h]
  cases r with
  | s i | key i | nonce i => rfl
  | blkctr i | ksblk i => simp only [writeReg, endWrite, windowStore, withHalf_eq_replaceHalf]
  | _ => cases h

/-- A window word reads as it was stored, and a store leaves every other window word as it was. -/
theorem windowWord_windowStore {r : Reg} {off : BitVec 8} (h : windowOffset r = some off) (r' : Reg) (v : Word)
    (s : State) : windowWord r' (windowStore r v s) = if r' = r then v else windowWord r' s := by
  cases r with
  | s i | key i | nonce i =>
    cases r' with
    | s j | key j | nonce j => simp [windowWord, windowStore, Vector.getElem_set, Fin.ext_iff, eq_comm]
    | _ => rfl
  | blkctr i | ksblk i =>
    cases r' with
    | blkctr j | ksblk j =>
      simp [windowWord, windowStore, ← half_eq_ofNat, ← withHalf_eq_replaceHalf, half_withHalf]
    | _ => rfl
  | _ => cases h

/-- A second store to a window word overwrites the first. -/
theorem windowStore_windowStore {r : Reg} {off : BitVec 8} (h : windowOffset r = some off) (v w : Word) (s : State) :
    windowStore r w (windowStore r v s) = windowStore r w s := by
  cases r with
  | s i | key i | nonce i => simp [windowStore]
  | blkctr i | ksblk i => simp only [windowStore, ← withHalf_eq_replaceHalf, withHalf_withHalf]
  | _ => cases h

@[simp] theorem windowStore_BUSY (r : Reg) (w : Word) (s : State) : (windowStore r w s).BUSY = s.BUSY := by
  cases r <;> rfl

/-! ## Host accesses to a window word -/

section Window

variable {s : State} {r : Reg} {off : BitVec 8} (h : windowOffset r = some off)
include h

theorem hostAccess_readWindow (hs : s.BUSY = false ∨ r.isS = false) :
    hostAccess (.read off .four) s = respond (windowWord r s) s := by
  have hd : decodeOffset off = r := decodeOffset_window h
  obtain ⟨-, -, -, hks, -⟩ := windowOffset_class h
  rw [hostAccess_read (accessRefused_window h hd (.inr ⟨rfl, rfl⟩)) (by rwa [hd]) (by rwa [hd]), hd, readReg,
    readWord_window h]
  rfl

theorem hostAccess_readWindowByte (hs : s.BUSY = false ∨ r.isS = false) (k : Fin 4) :
    hostAccess (.read (off + BitVec.ofNat 8 k.val) .one) s
      = respond ((byteOf (windowWord r s) k.val).setWidth 32) s := by
  have hd : decodeOffset (off + BitVec.ofNat 8 k.val) = r := decodeOffset_windowByte h k
  obtain ⟨-, -, -, hks, -⟩ := windowOffset_class h
  rw [hostAccess_read (accessRefused_window h hd (.inl rfl)) (by rwa [hd]) (by rwa [hd]), hd, readReg,
    readWord_window h, toNat_windowByte_mod h, lane_eq_byteOf]
  rfl

theorem hostAccess_writeWindow (hb : s.BUSY = false) (v : Word) :
    hostAccess (.write off .four v) s = windowStore r v s := by
  have hd : decodeOffset off = r := decodeOffset_window h
  rw [hostAccess_write (accessRefused_window h hd (.inr ⟨rfl, rfl⟩)) (.inl hb), hd, writeReg_window h]
  rfl

theorem hostAccess_writeWindowByte (hb : s.BUSY = false) (k : Fin 4) (v : Word) :
    hostAccess (.write (off + BitVec.ofNat 8 k.val) .one v) s
      = windowStore r (withLane (windowWord r s) k.val (v.setWidth 8)) s := by
  have hd : decodeOffset (off + BitVec.ofNat 8 k.val) = r := decodeOffset_windowByte h k
  rw [hostAccess_write (accessRefused_window h hd (.inl rfl)) (.inl hb), hd, writeReg_window h, mergeWrite,
    toNat_windowByte_mod h]
  rfl

end Window

/-- Settles O43: a window word's offsets decode to it, and it reads as itself. -/
theorem windowRead : Obligations.WindowRead :=
  fun _ _ _ hoff hs => ⟨hostAccess_readWindow hoff hs, hostAccess_readWindowByte hoff hs⟩

/-- Settles O45: the write is a store, which leaves the block idle for the read that follows. -/
theorem windowReadAfterWrite : Obligations.WindowReadAfterWrite := by
  intro s r r' off off' v hb hoff hoff'
  rw [hostAccess_writeWindow hoff hb, hostAccess_readWindow hoff' (.inl (by simpa using hb)),
    windowWord_windowStore hoff, respond_rdata]

/-! ## Byte writes in any order (20_memory.md R62) -/

/-- A Word with the bytes named in `order` written one after another. -/
def writeLanes (b : Fin 4 → Byte) (order : List (Fin 4)) (w : Word) : Word :=
  order.foldl (fun w k => withLane w k.val (b k)) w

/-- A byte that is written has its new value, whatever is written before and after it. -/
theorem lane_writeLanes (b : Fin 4 → Byte) (order : List (Fin 4)) (w : Word) (j : Fin 4) :
    lane (writeLanes b order w) j.val = if j ∈ order then b j else lane w j.val := by
  induction order generalizing w with
  | nil => rfl
  | cons k rest ih =>
    rw [writeLanes, List.foldl_cons, ← writeLanes, ih, lane_withLane]
    by_cases hj : j = k
    · simp [hj]
    · simp [hj]

/-- A Word is determined by its four bytes. -/
theorem eq_of_lane_eq {w w' : Word} (h : ∀ j : Fin 4, lane w j.val = lane w' j.val) : w = w' := by
  have hlane (j : Fin 4) : w.toNat / 2 ^ (8 * j.val) % 2 ^ 8 = w'.toNat / 2 ^ (8 * j.val) % 2 ^ 8 := by
    rw [← toNat_lane, h, toNat_lane]
  have h0 := hlane 0
  have h1 := hlane 1
  have h2 := hlane 2
  have h3 := hlane 3
  apply BitVec.eq_of_toNat_eq
  simp at h0 h1 h2 h3
  omega

theorem lane_pack (b : Fin 4 → Byte) (j : Fin 4) : lane (pack (b 0) (b 1) (b 2) (b 3)) j.val = b j := by
  apply BitVec.eq_of_toNat_eq
  have h0 := (b 0).isLt
  have h1 := (b 1).isLt
  have h2 := (b 2).isLt
  have h3 := (b 3).isLt
  rw [toNat_lane, pack, toNat_append, toNat_append, toNat_append]
  fin_cases j <;> simp <;> omega

/-- Writing all four bytes leaves the packed word, in whatever order they are written. -/
theorem writeLanes_all (b : Fin 4 → Byte) {order : List (Fin 4)} (hall : ∀ k, k ∈ order) (w : Word) :
    writeLanes b order w = pack (b 0) (b 1) (b 2) (b 3) :=
  eq_of_lane_eq fun j => by rw [lane_writeLanes, if_pos (hall j), lane_pack]

/-- A host write of byte k of the window word at `off`. -/
def hostWriteByte (off : BitVec 8) (b : Fin 4 → Byte) (t : State) (k : Fin 4) : State :=
  hostAccess (.write (off + BitVec.ofNat 8 k.val) .one ((b k).setWidth 32)) t

/-- One or more byte writes to a window word are one store of the word with these bytes written. -/
theorem foldl_hostWriteByte {r : Reg} {off : BitVec 8} (h : windowOffset r = some off) (b : Fin 4 → Byte)
    (k : Fin 4) (rest : List (Fin 4)) {s : State} (hb : s.BUSY = false) :
    (k :: rest).foldl (hostWriteByte off b) s = windowStore r (writeLanes b (k :: rest) (windowWord r s)) s := by
  induction rest generalizing k s with
  | nil =>
    simp [hostWriteByte, hostAccess_writeWindowByte h hb, writeLanes]
  | cons k' rest ih =>
    have hfirst : hostWriteByte off b s k = windowStore r (withLane (windowWord r s) k.val (b k)) s := by
      simp [hostWriteByte, hostAccess_writeWindowByte h hb]
    rw [List.foldl_cons, hfirst, ih k' (by simpa using hb), windowWord_windowStore h, if_pos rfl,
      windowStore_windowStore h]
    rfl

/-- Settles O44: a byte write stores the old word with that lane replaced, and four of them replace every lane. -/
theorem windowWrite : Obligations.WindowWrite := by
  intro s r off v hb hoff
  refine ⟨hostAccess_writeWindow hoff hb v, fun k => ⟨_, hostAccess_writeWindowByte hoff hb k v, fun j => ?_⟩,
    fun b order hperm => ?_⟩
  · rw [← lane_eq_byteOf, ← lane_eq_byteOf, lane_withLane]
  · have hall (k : Fin 4) : k ∈ order := hperm.mem_iff.mpr (by fin_cases k <;> decide)
    cases order with
    | nil => simp at hall
    | cons k rest => exact (foldl_hostWriteByte hoff b k rest hb).trans (by rw [writeLanes_all b hall])

/-! ## The control registers (20_memory.md R63–R65, R67) -/

theorem ctrlWord_eq (s : State) : ctrlWord s = BitVec.ofNat 32 (s.KEYLEN.toNat + 2 ^ 8 * s.IE.toNat) := by
  apply BitVec.eq_of_toNat_eq
  rw [ctrlWord, BitVec.toNat_setWidth, toNat_append, BitVec.toNat_ofBool, BitVec.toNat_ofNat]
  omega

theorem statusWord_eq (s : State) :
    statusWord s = BitVec.ofNat 32 (s.BUSY.toNat + 2 * s.DONE.toNat + 4 * s.ERR.toNat + 8 * s.CONFIGURED.toNat
      + 16 * s.KSEND.toNat + 2 ^ 8 * s.ERRCODE.toNat) := by
  apply BitVec.eq_of_toNat_eq
  rw [statusWord, BitVec.toNat_setWidth]
  simp only [toNat_append, BitVec.toNat_ofBool, BitVec.toNat_ofNat, BitVec.ofNat_eq_ofNat]
  omega

/-- The access checks let a word access to a control register pass in the register's own directions. -/
theorem accessRefused_control {r : Reg} {a : Access} (hr : r.wordOnly = true) (hoff : a.off = BitVec.ofNat 8 r.base)
    (hsize : a.size = .four) (hwrite : a.isWrite = true → r.readOnly = false) (hread : a.isWrite = false → r ≠ .cmd) :
    accessRefused a = false ∧ a.reg = r := by
  have hbase : a.off.toNat = r.base ∧ r.base % 4 = 0 := by
    rw [hoff]
    cases r with
    | s | key | nonce | blkctr | ksblk => cases hr
    | _ => decide
  have hne : r ≠ .ksData ∧ r ≠ .reserved := by constructor <;> rintro rfl <;> cases hr
  have hd : a.reg = r := (decodeOffset_eq_iff hne.2).mpr (by omega)
  have hsz : a.size ≠ .two ∧ a.size ≠ .one ∧ a.off.toNat % a.size.toNat = 0 := by
    rw [hsize, hbase.1]
    exact ⟨nofun, nofun, hbase.2⟩
  refine ⟨accessRefused_eq_false.mpr ?_, hd⟩
  rw [hd]
  exact ⟨hsz.1, hsz.2.2, hne.2, fun h => absurd h hsz.2.1, fun h => absurd h hsz.2.1, hwrite, hread⟩

/-- A word read of a control register other than CMD returns it, at any time. -/
theorem hostAccess_readControl {r : Reg} (hr : r.wordOnly = true) (hc : r ≠ .cmd) (s : State) :
    hostAccess (.read (BitVec.ofNat 8 r.base) .four) s = respond (readWord r s) s := by
  obtain ⟨ha, hd⟩ := accessRefused_control (a := .read (BitVec.ofNat 8 r.base) .four) hr rfl rfl nofun fun _ => hc
  replace hd : decodeOffset (BitVec.ofNat 8 r.base) = r := hd
  have hks : r ≠ .ksData := by rintro rfl; cases hr
  have hS : r.isS = false := by
    cases r with
    | s => cases hr
    | _ => rfl
  rw [hostAccess_read ha (by rwa [hd]) (.inr (by rwa [hd])), hd]
  rfl

/-- A word write to a control register is performed in an idle block, and to STATUS at any time. -/
theorem hostAccess_writeControl {r : Reg} (hr : r.wordOnly = true) (hw : r.readOnly = false) {s : State}
    (hb : s.BUSY = false ∨ r = .status) (w : Word) :
    hostAccess (.write (BitVec.ofNat 8 r.base) .four w) s
      = endWrite (writeReg r (BitVec.ofNat 8 r.base) .four w s) := by
  obtain ⟨ha, hd⟩ :=
    accessRefused_control (a := .write (BitVec.ofNat 8 r.base) .four w) hr rfl rfl (fun _ => hw) nofun
  replace hd : decodeOffset (BitVec.ofNat 8 r.base) = r := hd
  rw [hostAccess_write ha (by rwa [hd]), hd]

/-- Settles O46: each of the five offsets holds a control register, read at any time. -/
theorem controlRegisterReads : Obligations.ControlRegisterReads := by
  intro s
  refine ⟨hostAccess_readControl (r := .id) rfl nofun s, ?_, ?_,
    hostAccess_readControl (r := .errinfo) rfl nofun s, ?_⟩
  · rw [← ctrlWord_eq]
    exact hostAccess_readControl (r := .ctrl) rfl nofun s
  · rw [← statusWord_eq]
    exact hostAccess_readControl (r := .status) rfl nofun s
  · rw [BitVec.ofNat_toNat]
    exact hostAccess_readControl (r := .ksoff) rfl nofun s

/-- A STATUS write, field by field (R65). -/
theorem writeStatus_eq (w : Word) (s : State) :
    writeStatus w s =
      { s with
        DONE := s.DONE && !w.getLsbD 1
        ERR := s.ERR && !w.getLsbD 2
        ERRCODE := if w.getLsbD 2 then 0 else s.ERRCODE
        ERRINFO := if w.getLsbD 2 then 0 else s.ERRINFO } := by
  cases h1 : w.getLsbD 1 <;> cases h2 : w.getLsbD 2 <;>
    simp only [writeStatus, clearErr, h1, h2, Bool.false_eq_true, if_true, if_false, Bool.not_true, Bool.not_false,
      Bool.and_true, Bool.and_false]

/-- Settles O47: each write is the register's own update. -/
theorem controlRegisterWrites : Obligations.ControlRegisterWrites := by
  intro s w
  refine ⟨fun hb => ⟨?_, ?_⟩, ?_⟩
  · exact hostAccess_writeControl (r := .ctrl) rfl rfl (.inl hb) w
  · exact hostAccess_writeControl (r := .ksoff) rfl rfl (.inl hb) w
  · have hw : hostAccess (.write 0x0C .four w) s = endWrite (writeStatus w s) :=
      hostAccess_writeControl (r := .status) rfl rfl (.inr rfl) w
    rw [hw, writeStatus_eq]
    rfl

/-! ## The BUSY window, and what a read leaves unchanged (20_memory.md R57, R68) -/

theorem truncateTo_one_lt (w : Word) : (truncateTo .one w).toNat < 256 := by
  rw [truncateTo, if_pos rfl, BitVec.toNat_setWidth, BitVec.toNat_setWidth]
  omega

/-- Settles O48: the busy checks refuse the writes and the stream reads, and the reads are a draw or the usual read. -/
theorem busyWindowAccesses : Obligations.BusyWindowAccesses := by
  intro s a hb ha
  refine ⟨fun hw hst => ?_, fun hr hks => ?_, fun hr hS => ?_, fun hr hks hS => ?_⟩
  · exact hostAccess_of_busyRefused ha (by simp [busyRefused, hb, hw, hst])
  · exact hostAccess_of_busyRefused ha (by simp [busyRefused, hb, hr, hks])
  · cases a with
    | read off n =>
      refine ⟨_, _, hostAccess_draw ha hb hS, ?_⟩
      rintro ⟨⟩
      exact truncateTo_one_lt _
    | write => cases hr
  · cases a with
    | read off n => exact hostAccess_read ha hks (.inr hS)
    | write => cases hr

/-- What a register reads as does not depend on what the host has read. -/
theorem readReg_respond (r : Reg) (off : BitVec 8) (n : Size) (v : Word) (s : State) :
    readReg r off n (respond v s) = readReg r off n s := by
  cases r <;> rfl

/-- Settles O49: such a read is refused by the access checks, draws, or returns a register. -/
theorem onlyKeystreamReadsHaveSideEffects : Obligations.OnlyKeystreamReadsHaveSideEffects := by
  rintro s t off n hks rfl
  cases ha : accessRefused (.read off n) with
  | true =>
    simp only [hostAccess_of_accessRefused ha]
    exact ⟨rfl, nofun, fun _ => rfl⟩
  | false =>
    by_cases hs : s.BUSY = false ∨ (decodeOffset off).isS = false
    · rw [hostAccess_read ha hks hs]
      refine ⟨rfl, fun _ => ⟨rfl, rfl, rfl⟩, fun _ => ?_⟩
      rw [hostAccess_read (s := respond _ s) ha hks hs, readReg_respond]
      rfl
    · obtain ⟨hb, hS⟩ := not_or.mp hs
      rw [hostAccess_draw ha (Bool.of_not_eq_false hb) (Bool.of_not_eq_false hS)]
      exact ⟨rfl, fun _ => ⟨rfl, rfl, rfl⟩, fun h => absurd h hs⟩

end Sys2Proof.Machine

/-! ## A command's fields in a word, and under a mask (30_encoding.md R81, R83, R84, R86, R91) -/

namespace Sys2Proof
open Sys2Proof.Machine
open Sys2Proof.Laws.EncodesLegally (opOf enc_toNat)

/-- A field that the mask covers is the word's own. -/
theorem extractLsb'_and_of_allOnes {m : Word} {lo n : Nat} (h : m.extractLsb' lo n = BitVec.allOnes n) (w : Word) :
    (w &&& m).extractLsb' lo n = w.extractLsb' lo n := by
  rw [BitVec.extractLsb'_and, h, BitVec.and_allOnes]

/-- A field that the mask leaves out is 0. -/
theorem extractLsb'_and_of_zero {m : Word} {lo n : Nat} (h : m.extractLsb' lo n = 0#n) (w : Word) :
    (w &&& m).extractLsb' lo n = 0#n := by
  rw [BitVec.extractLsb'_and, h, BitVec.and_zero]

/-- A word is `enc` of arguments in range exactly when its reserved fields are 0 and every other field holds its argument:
the fields of format C make up the whole word. -/
theorem eq_enc_iff {w : Word} {op ra rb rc rd sh : Nat} (h0 : op < 64) (h1 : ra < 16) (h2 : rb < 16) (h3 : rc < 16)
    (h4 : rd < 16) (h5 : sh < 32) :
    w = enc op ra rb rc rd sh
      ↔ fieldRES0 w = 0 ∧ fieldRES1 w = 0 ∧ (fieldOP w).toNat = op ∧ (fieldRA w).val = ra ∧ (fieldRB w).val = rb
        ∧ (fieldRC w).val = rc ∧ (fieldRD w).val = rd ∧ (fieldSH w).val = sh := by
  have := w.isLt
  simp only [← BitVec.toNat_inj, enc_toNat h0 h1 h2 h3 h4 h5, fieldRES0, fieldRES1, fieldOP, fieldRA, fieldRB, fieldRC,
    fieldRD, fieldSH, BitVec.extractLsb'_toNat, Nat.shiftRight_eq_div_pow, BitVec.ofNat_eq_ofNat, BitVec.toNat_ofNat]
  omega

/-- A command with its operands replaced by the fields of a word. -/
def operandsFrom (w : Word) : Instr → Instr
  | .add32 _ _ _ => .add32 (fieldRA w) (fieldRB w) (fieldRD w)
  | .xor32 _ _ _ => .xor32 (fieldRA w) (fieldRB w) (fieldRD w)
  | .rotl32 _ _ _ => .rotl32 (fieldRA w) (fieldSH w) (fieldRD w)
  | .qround _ _ _ _ => .qround (fieldRA w) (fieldRB w) (fieldRC w) (fieldRD w)
  | i => i

/-- The word holds the command: no reserved bit, the command's OP, and its operands in the fields R83 lists for it. -/
def HoldsCommand (w : Word) (i : Instr) : Prop :=
  fieldRES0 w = 0 ∧ fieldRES1 w = 0 ∧ (fieldOP w).toNat = opOf i ∧ operandsFrom w i = i

/-- The operand fields the command ignores are 0 in the word. -/
def IgnoredFieldsZero (w : Word) : Instr → Prop
  | .add32 _ _ _ | .xor32 _ _ _ => fieldRC w = 0 ∧ fieldSH w = 0
  | .rotl32 _ _ _ => fieldRB w = 0 ∧ fieldRC w = 0
  | .qround _ _ _ _ => fieldSH w = 0
  | _ => fieldRA w = 0 ∧ fieldRB w = 0 ∧ fieldRC w = 0 ∧ fieldRD w = 0 ∧ fieldSH w = 0

/-- What the decoder accepts. -/
theorem decode_eq_ok_iff {w : Word} {i : Instr} : decode w = .ok i ↔ HoldsCommand w i := by
  constructor
  · intro h
    unfold decode at h
    split at h
    case isTrue => cases h
    case isFalse hres =>
      obtain ⟨h0, h1⟩ := not_or.mp hres
      split at h <;> cases h <;> exact ⟨not_not.mp h0, not_not.mp h1, ‹_›, rfl⟩
  · rintro ⟨h0, h1, hop, hi⟩
    rw [← hi, decode, if_neg (not_or.mpr ⟨not_not.mpr h0, not_not.mpr h1⟩), hop]
    cases i <;> rfl

/-- The command's encoding is the one word that holds it with 0 in the ignored fields (30_encoding.md R91). -/
theorem eq_encode_iff {w : Word} {i : Instr} : w = encode i ↔ HoldsCommand w i ∧ IgnoredFieldsZero w i := by
  cases i
  all_goals
    simp only [HoldsCommand, IgnoredFieldsZero, opOf, operandsFrom, encode]
    simp (disch := omega) only [eq_enc_iff]
    -- What is left lists the same fields on both sides, those of the command first on the right.
    simp only [Fin.val_inj, Fin.val_eq_zero_iff, Instr.add32.injEq, Instr.xor32.injEq, Instr.rotl32.injEq,
      Instr.qround.injEq]
    tauto

/-- The mask of the used bits keeps every field that the command's decoding reads. -/
theorem holdsCommand_and_usedBits {w : Word} {i : Instr} : HoldsCommand (w &&& usedBits i) i ↔ HoldsCommand w i := by
  cases i <;>
    simp (disch := decide) only [HoldsCommand, usedBits, operandsFrom, fieldRES0, fieldRES1, fieldOP, fieldRA, fieldRB,
      fieldRC, fieldRD, fieldSH, extractLsb'_and_of_allOnes]

/-- The mask of the used bits clears every field that the command ignores. -/
theorem ignoredFieldsZero_and_usedBits (w : Word) (i : Instr) : IgnoredFieldsZero (w &&& usedBits i) i := by
  cases i <;>
    simp (disch := decide) [IgnoredFieldsZero, usedBits, fieldRA, fieldRB, fieldRC, fieldRD, fieldSH,
      extractLsb'_and_of_zero, -BitVec.extractLsb'_toNat]

/-- Settles O1: the encoding holds the command, and the decoder accepts what a word holds. -/
theorem decodeOfEncode : Obligations.DecodeOfEncode := by
  intro i
  obtain ⟨hholds, -⟩ := eq_encode_iff.mp (rfl : encode i = encode i)
  exact decode_eq_ok_iff.mpr hholds

/-- Settles O2: the mask keeps what makes the word hold the command and clears the rest. -/
theorem decodeReadsExactlyTheUsedBits : Obligations.DecodeReadsExactlyTheUsedBits := by
  intro w i
  calc decode w = .ok i
      ↔ HoldsCommand (w &&& usedBits i) i := decode_eq_ok_iff.trans holdsCommand_and_usedBits.symm
    _ ↔ HoldsCommand (w &&& usedBits i) i ∧ IgnoredFieldsZero (w &&& usedBits i) i :=
      (and_iff_left (ignoredFieldsZero_and_usedBits w i)).symm
    _ ↔ w &&& usedBits i = encode i := eq_encode_iff.symm

/-- Settles O3: the encoder's sum, its shifts as powers of 2. -/
theorem encodeFollowsTheEncFormula : Obligations.EncodeFollowsTheEncFormula := by
  refine ⟨fun ra rb rd => ⟨?_, ?_⟩, fun ra rd sh => ?_, fun ra rb rc rd => ?_, by decide⟩ <;>
    simp [encode, enc_toNat]

/-! ## Words that are no command (30_encoding.md R84, R85) -/

/-- A latched word that is no command completes with ILLEGAL_CMD. -/
theorem engineMove_of_decode_ne_ok {s : State} (hb : s.BUSY = true) (h : ∀ i, decode s.CMDQ ≠ .ok i) :
    engineMove s = .next (failedCommand 1 s) := by
  obtain ⟨hidle, -⟩ | ⟨i, -, hi, -⟩ | ⟨-, -, -, hfail⟩ := engineMove_cases s
  · rw [hb] at hidle
    cases hidle
  · exact absurd hi (h i)
  · exact hfail

/-- A word that holds a command has no bit of the mask of R84 set. -/
theorem HoldsCommand.and_reserved_eq_zero {w : Word} {i : Instr} (h : HoldsCommand w i) : w &&& 0xE00000C0 = 0 := by
  obtain ⟨h0, h1, -, -⟩ := h
  refine (eq_encode_iff (i := .nop)).mpr ⟨⟨?_, ?_, ?_, rfl⟩, ?_⟩
  · rwa [fieldRES0, extractLsb'_and_of_allOnes (by decide)]
  · rwa [fieldRES1, extractLsb'_and_of_allOnes (by decide)]
  · rw [fieldOP, extractLsb'_and_of_zero (by decide)]
    rfl
  · simp (disch := decide) [IgnoredFieldsZero, fieldRA, fieldRB, fieldRC, fieldRD, fieldSH, extractLsb'_and_of_zero,
      -BitVec.extractLsb'_toNat]

/-- A word that holds a command has one of the 13 assigned OPs. -/
theorem HoldsCommand.op_mem_assignedOps {w : Word} {i : Instr} (h : HoldsCommand w i) : w.toNat % 64 ∈ assignedOps := by
  obtain ⟨-, -, hop, -⟩ := h
  rw [← fieldOP_toNat, hop]
  cases i <;> simp [opOf, assignedOps]

/-- Settles O4: such a word holds no command. -/
theorem illegalWordsOnlyRecordTheError : Obligations.IllegalWordsOnlyRecordTheError := by
  refine ⟨fun s hb hres => ?_, fun s op hb hop hun => ?_⟩
  · exact engineMove_of_decode_ne_ok hb fun i hi => hres (decode_eq_ok_iff.mp hi).and_reserved_eq_zero
  · refine engineMove_of_decode_ne_ok hb fun i hi => ?_
    have hmem := (decode_eq_ok_iff.mp hi).op_mem_assignedOps
    rw [hop] at hmem
    simp only [assignedOps, List.mem_cons, List.not_mem_nil, or_false] at hmem
    omega

/-- Settles O5, by evaluation of the decoder. -/
theorem decodeOfWrittenOutWords : Obligations.DecodeOfWrittenOutWords :=
  ⟨rfl, rfl, rfl, rfl, rfl, rfl, rfl, rfl, rfl⟩

end Sys2Proof

/-! ## Command life cycle (40_command_control.md) -/

namespace Sys2Proof.Machine

/-! ### Runs, one step at a time (00_scope.md R3) -/

theorem step_nil {s : State} (h : s.moves = []) : step s = engineMove s := by
  unfold step
  rw [h]

theorem step_engine {s : State} {rest : List Move} (h : s.moves = .engine :: rest) :
    step s = engineMove { s with moves := rest } := by
  unfold step
  rw [h]

theorem step_host {s : State} {a : Access} {rest : List Move} (h : s.moves = .host a :: rest) :
    step s = .next (hostAccess a { s with moves := rest }) := by
  unfold step
  rw [h]

theorem run_succ {M : Host.Core} {s t : M.State} (h : M.step s = .next t) (n : Nat) :
    M.run (n + 1) s = M.run n t := by
  rw [Host.Core.run, h]

theorem runSteps_succ {s t : State} (h : step s = .next t) (n : Nat) : runSteps (n + 1) s = runSteps n t :=
  run_succ (M := core) h n

/-- Every step takes one move off the schedule, where there is one. -/
theorem StepEvent.moves_eq_tail {s t : State} (ev : StepEvent s t) : t.moves = s.moves.tail := by
  cases ev with
  | streams => exact advance_moves _ _
  | clears => exact writeStatus_moves _ _
  | _ => rfl

@[simp] theorem hostAccess_moves (a : Access) (s : State) : (hostAccess a s).moves = s.moves :=
  (StepEvent.of_hostAccess (s := { s with moves := .host a :: s.moves }) rfl).moves_eq_tail

/-! ### The ENGINE's step (R101, R102) -/

theorem engineMove_idle {s : State} (hb : s.BUSY = false) : engineMove s = .next s := by
  simp [engineMove, hb]

theorem engineMove_of_decode_ok {s : State} {i : Instr} (hb : s.BUSY = true) (hd : decode s.CMDQ = .ok i) :
    engineMove s = exec i s := by
  simp [engineMove, engineStep, hb, hd]

theorem engineMove_of_decode_error {s : State} {e : DecodeError} (hb : s.BUSY = true)
    (hd : decode s.CMDQ = .error e) : engineMove s = .next (failedCommand 1 s) :=
  engineMove_of_decode_ne_ok hb fun i hi => by cases hd.symm.trans hi

/-- Every latched word completes, and touches nothing that no command touches. -/
theorem engineMove_completes {s : State} (hb : s.BUSY = true) : ∃ t, engineMove s = .next t ∧ SameOutside s t := by
  cases hd : decode s.CMDQ with
  | ok i =>
    rw [engineMove_of_decode_ok hb hd]
    obtain ⟨e, he⟩ | ⟨v, he⟩ | ⟨-, -, he⟩ := exec_cases i s <;> exact ⟨_, he, exec_sameOutside he⟩
  | error e => exact ⟨_, engineMove_of_decode_error hb hd, by constructor <;> rfl⟩

/-- Settles O6, from the equations of a step and of an ENGINE move. -/
theorem stepRunsTheDecodedCommand : Obligations.StepRunsTheDecodedCommand := by
  refine ⟨fun s i rest hb hd hm => ?_, fun s i hb hd hm => ?_, fun s rest hb hm => ?_, fun s hb hm => ?_,
    fun s a rest hm => step_host hm⟩
  · rw [step_engine hm]
    exact engineMove_of_decode_ok hb hd
  · rw [step_nil hm, engineMove_of_decode_ok hb hd]
  · rw [step_engine hm]
    exact engineMove_idle hb
  · rw [step_nil hm, engineMove_idle hb]

/-- Settles O8, from what no command touches. -/
theorem everyLatchedCommandCompletes : Obligations.EveryLatchedCommandCompletes := by
  refine ⟨fun s hb => ?_, fun s => engineMove_idle⟩
  obtain ⟨t, ht, h⟩ := engineMove_completes hb
  exact ⟨t, ht, h.busy, h.done, h.keylen, h.ie, h.key, h.nonce, h.blkctr, h.cmdq, h.constants, h.moves, h.rdata,
    h.draws⟩

/-! ### The BUSY window (R104) -/

/-- What may differ between two states of one BUSY window: DONE, the error record and the model's own fields. The two
agree on every register that a command reads, on CMDQ and on BUSY. -/
inductive SameInputs (s : State) : State → Prop where
  | intro (done err : Bool) (code : BitVec 4) (info : Word) (moves : List Move) (rdata : Option Word) (draws : Nat) :
      SameInputs s
        { s with
          DONE := done, ERR := err, ERRCODE := code, ERRINFO := info, moves := moves, rdata := rdata, draws := draws }

namespace SameInputs

theorem trans {s t u : State} (h : SameInputs s t) (h' : SameInputs t u) : SameInputs s u := by
  cases h
  cases h'
  exact .intro ..

theorem busy {s t : State} (h : SameInputs s t) : t.BUSY = s.BUSY := by
  cases h
  rfl

theorem cmdq {s t : State} (h : SameInputs s t) : t.CMDQ = s.CMDQ := by
  cases h
  rfl

/-- While a command is latched, a host access changes no input of it: the only write that is performed is a STATUS
write, and no KS_DATA read is. -/
theorem of_hostAccess {s : State} (hb : s.BUSY = true) (a : Access) : SameInputs s (hostAccess a s) := by
  obtain ⟨-, h⟩ | ⟨-, -, h⟩ | ⟨-, -, -, -, -, h⟩ | ⟨-, hpass, -, h⟩ := hostAccess_cases a s <;> rw [h]
  · exact .intro ..
  · exact .intro ..
  · exact .intro ..
  · simp only [busyRefused, hb, Bool.true_and, Bool.or_eq_false_iff] at hpass
    obtain ⟨hwrite, hread⟩ := hpass
    cases a with
    | read off n =>
      have hks : decodeOffset off ≠ .ksData := of_decide_eq_false hread
      rw [performAccess, if_neg hks]
      exact .intro ..
    | write off n w =>
      have hst : decodeOffset off = .status := not_not.mp (of_decide_eq_false hwrite)
      rw [performAccess, hst, writeReg, writeStatus_eq]
      exact .intro ..

/-- A run of host accesses in a BUSY window changes no input of the latched command. -/
theorem of_runSteps {accesses : List Access} {s : State} {rest : List Move} (hb : s.BUSY = true)
    (hm : s.moves = accesses.map .host ++ rest) :
    ∃ t, runSteps accesses.length s = .next t ∧ SameInputs s t ∧ t.moves = rest := by
  induction accesses generalizing s with
  | nil => exact ⟨s, rfl, .intro .., hm⟩
  | cons a accesses ih =>
    have hpop : SameInputs s { s with moves := accesses.map .host ++ rest } := .intro ..
    have hfirst := hpop.trans (of_hostAccess (hpop.busy.trans hb) a)
    obtain ⟨t, ht, hrun, hrest⟩ := ih (hfirst.busy.trans hb) (hostAccess_moves a _)
    exact ⟨t, (runSteps_succ (step_host hm) _).trans ht, hfirst.trans hrun, hrest⟩

/-- A command's check reads only its inputs. -/
theorem checkInstr_eq {s t : State} (h : SameInputs s t) (i : Instr) : checkInstr i t = checkInstr i s := by
  cases h
  cases i <;> rfl

/-- A failure has the same effect on the two states. -/
theorem failed {s t : State} (h : SameInputs s t) (k : BitVec 4) :
    SameInputs (failedCommand k s) (failedCommand k t) := by
  cases h
  exact .intro ..

/-- A command has the same effect on the two states. -/
theorem executed {s t : State} (h : SameInputs s t) (i : Instr) :
    ∃ u v, exec i s = .next u ∧ exec i t = .next v ∧ SameInputs u v := by
  have ht := h.checkInstr_eq i
  cases hs : checkInstr i s with
  | some e =>
    rw [exec_of_checkInstr_some hs, exec_of_checkInstr_some (ht.trans hs), failCommand_eq, failCommand_eq]
    exact ⟨_, _, rfl, rfl, h.failed _⟩
  | none =>
    cases h
    cases i with
    | qround | expand | getblock =>
      exact ⟨_, _, if_pos (by simpa [checkInstr] using hs), if_pos (by simpa [checkInstr] using hs), .intro ..⟩
    | configure =>
      have hk : s.KEYLEN = 16 ∨ s.KEYLEN = 32 := by simpa [checkInstr, or_iff_not_imp_left] using hs
      exact ⟨_, _, if_pos hk, if_pos hk, .intro ..⟩
    | _ => exact ⟨_, _, rfl, rfl, .intro ..⟩

/-- The ENGINE's step has the same effect on the two states. -/
theorem completed {s t : State} (h : SameInputs s t) (hb : s.BUSY = true) :
    ∃ u v, engineMove s = .next u ∧ engineMove t = .next v ∧ SameInputs u v := by
  have hbt : t.BUSY = true := h.busy.trans hb
  cases hd : decode s.CMDQ with
  | ok i =>
    rw [engineMove_of_decode_ok hb hd, engineMove_of_decode_ok hbt (h.cmdq ▸ hd)]
    exact h.executed i
  | error e =>
    exact ⟨_, _, engineMove_of_decode_error hb hd, engineMove_of_decode_error hbt (h.cmdq ▸ hd), h.failed 1⟩

end SameInputs

/-- Bit 0 of STATUS is BUSY (10_state.md R29). -/
theorem statusWord_mod_two (s : State) : (statusWord s).toNat % 2 = s.BUSY.toNat := by
  have := Bool.toNat_lt s.BUSY
  rw [statusWord_eq, BitVec.toNat_ofNat]
  omega

/-- A STATUS read returns STATUS, at any time. -/
theorem hostAccess_readStatus (s : State) : hostAccess (.read 0x0C .four) s = respond (statusWord s) s :=
  hostAccess_readControl (r := .status) rfl nofun s

/-- Settles O50: each access of the run keeps the latched command's inputs, and its completion reads nothing else. -/
theorem frozenInputs : Obligations.FrozenInputs := by
  intro s accesses rest hb hm
  obtain ⟨t, hrun, hsame, rfl⟩ := SameInputs.of_runSteps hb hm
  refine ⟨t, hrun, ?_, ⟨statusWord t, ?_, ?_⟩, ?_⟩
  · cases hsame
    rfl
  · rw [hostAccess_readStatus]
    rfl
  · rw [statusWord_mod_two, hsame.busy, hb]
    rfl
  · obtain ⟨u, v, hu, hv, heffect⟩ := hsame.completed hb
    refine ⟨u, v, hu, hv, ?_⟩
    cases heffect
    exact ⟨rfl, rfl, rfl, rfl, rfl⟩

/-! ### Progress (R106) -/

/-- Settles O9, by induction on the schedule: a host access leaves the command latched, and the first ENGINE move, or
the end of the schedule, completes it. -/
theorem acceptedCommandCompletes : Obligations.AcceptedCommandCompletes := by
  intro s hb hreset
  induction hm : s.moves generalizing s with
  | nil =>
    obtain ⟨t, ht, h⟩ := engineMove_completes hb
    exact ⟨1, t, by simp, runSteps_succ ((step_nil hm).trans ht) 0, h.busy, h.done, h.cmdq⟩
  | cons m rest ih =>
    cases m with
    | reset => simp [hm] at hreset
    | engine =>
      obtain ⟨t, ht, h⟩ := engineMove_completes (s := { s with moves := rest }) hb
      exact ⟨1, t, by simp, runSteps_succ ((step_engine hm).trans ht) 0, h.busy, h.done, h.cmdq⟩
    | host a =>
      have hsame := SameInputs.of_hostAccess (s := { s with moves := rest }) hb a
      have hnoreset : Move.reset ∉ rest := fun h => hreset (by simp [hm, h])
      obtain ⟨n, t, hn, hrun, hbusy, hdone, hcmdq⟩ :=
        ih _ (hsame.busy.trans hb) (by simpa using hnoreset) (hostAccess_moves a _)
      exact ⟨n + 1, t, by simpa using hn, (runSteps_succ (step_host hm) n).trans hrun, hbusy, hdone,
        hcmdq.trans hsame.cmdq⟩

/-! ### The checks and the frame of a command (R101–R103) -/

/-- Settles O7: the check on the raw word is the decoder's and then the command's own. -/
theorem commandChecksInOrder : Obligations.CommandChecksInOrder := by
  intro s hb
  cases hd : decode s.CMDQ with
  | error e =>
    rw [commandCheck_of_decode_error hd]
    refine ⟨?_, nofun⟩
    rintro k ⟨⟩
    exact engineMove_of_decode_error hb hd
  | ok i =>
    rw [commandCheck_of_decode_ok hd, engineMove_of_decode_ok hb hd]
    cases hc : checkInstr i s with
    | some e =>
      refine ⟨?_, nofun⟩
      rintro k ⟨⟩
      rw [exec_of_checkInstr_some hc, failCommand_eq]
    | none =>
      refine ⟨nofun, fun _ => ?_⟩
      obtain ⟨v, hv⟩ | ⟨-, -, hv⟩ := exec_of_checkInstr_none hc <;> exact ⟨i, _, rfl, hv, hv, rfl, rfl, rfl⟩

/-- QROUND writes only the four words it names. -/
theorem readS_quarterRoundAt {ra rb rc rd j : WordIndex} (hj : j ∉ [ra, rb, rc, rd]) (s : State) :
    readS j (quarterRoundAt ra rb rc rd s) = readS j s := by
  simp only [List.mem_cons, List.not_mem_nil, or_false, not_or] at hj
  obtain ⟨ha, hb, hc, hd⟩ := hj
  simp only [quarterRoundAt, readS_writeS_other (Ne.symm ha), readS_writeS_other (Ne.symm hb),
    readS_writeS_other (Ne.symm hc), readS_writeS_other (Ne.symm hd)]

/-- A failed command leaves S as it was. -/
@[simp] theorem failCommand_S (e : ErrorCode) (s : State) : (failCommand e s).S = s.S := by simp [failCommand]

/-- A command that changes ERR is one that failed, and changes neither S nor the generator (R103). -/
theorem exec_err_changed {i : Instr} {s t : State} (h : exec i s = .next t) (herr : t.ERR ≠ s.ERR) :
    t.S = s.S ∧ t.KSBLK = s.KSBLK ∧ t.KSOFF = s.KSOFF ∧ t.KSEND = s.KSEND ∧ t.CONFIGURED = s.CONFIGURED := by
  obtain ⟨e, he⟩ | ⟨v, he⟩ | ⟨-, -, he⟩ := exec_cases i s <;> cases he.symm.trans h
  · rw [failCommand_eq]
    exact ⟨rfl, rfl, rfl, rfl, rfl⟩
  · exact absurd rfl herr
  · exact absurd rfl herr

/-- Settles O40: the common frame, then the words of S that each command names. -/
theorem commandFrame : Obligations.CommandFrame := by
  intro i s t h
  have hout := exec_sameOutside h
  refine ⟨hout.keylen, hout.ie, hout.key, hout.nonce, hout.blkctr, hout.cmdq, hout.constants, hout.moves, hout.rdata,
    hout.draws, ?_, ?_, ?_, ?_, exec_err_changed h⟩
  · rintro ra rb rd (rfl | rfl) j hj <;> cases h <;> exact readS_writeS_other (Ne.symm hj) _ s
  · rintro ra rd sh rfl j hj
    cases h
    exact readS_writeS_other (Ne.symm hj) _ s
  · rintro ra rb rc rd rfl j hj
    by_cases hdist : distinctIndices ra rb rc rd
    · cases (if_pos hdist).symm.trans h
      exact readS_quarterRoundAt hj s
    · cases (if_neg hdist).symm.trans h
      rw [failCommand_S]
  · rintro (rfl | rfl)
    · cases h
      rfl
    · by_cases hkey : s.KEYLEN = 16 ∨ s.KEYLEN = 32
      · cases (if_pos hkey).symm.trans h
        rfl
      · cases (if_neg hkey).symm.trans h
        exact failCommand_S _ s

/-! ### Acceptance (R100) -/

/-- Settles O10: the busy check is the only one a word write to CMD can fail. -/
theorem commandAcceptance : Obligations.CommandAcceptance := by
  intro s w
  refine ⟨fun hb => ?_, fun hb => ?_⟩
  · rw [hostAccess_cmd hb]
    refine ⟨rfl, fun hillegal => ?_⟩
    refine engineMove_of_decode_ne_ok rfl fun i hi => ?_
    have hholds : HoldsCommand w i := decode_eq_ok_iff.mp hi
    exact hillegal.elim (absurd hholds.and_reserved_eq_zero) (absurd hholds.op_mem_assignedOps)
  · obtain ⟨ha, hreg⟩ :=
      accessRefused_control (r := .cmd) (a := .write 0x08 .four w) rfl rfl rfl (fun _ => rfl) nofun
    exact hostAccess_of_busyRefused ha (by rw [busyRefused, hb, hreg]; rfl)

/-! ### The encoding clauses of the command rules (30_encoding.md R83, R84) -/

/-- A word with a reserved bit set is no command. -/
theorem decode_of_reserved_ne_zero {w : Word} (h : w &&& 0xE00000C0 ≠ 0) : decode w = .error .reservedBits := by
  unfold decode
  refine if_pos (by_contra fun hres => h ?_)
  obtain ⟨h0, h1⟩ := not_or.mp hres
  -- With its OP cleared the word would hold NOP.
  have hnop : HoldsCommand (w &&& 0xFFFFFFC0) .nop := by
    refine ⟨?_, ?_, ?_, rfl⟩
    · rw [fieldRES0, extractLsb'_and_of_allOnes (by decide)]
      exact not_not.mp h0
    · rw [fieldRES1, extractLsb'_and_of_allOnes (by decide)]
      exact not_not.mp h1
    · rw [fieldOP, extractLsb'_and_of_zero (by decide)]
      rfl
  simpa [BitVec.and_assoc] using hnop.and_reserved_eq_zero

/-- The encoding clause of a command, from its OP and from the operands its decoding takes from the word. -/
theorem encodedAs {op : Word} {dec : Word → Instr} (h0 : fieldRES0 op = 0) (h1 : fieldRES1 op = 0)
    (hop : ∀ w, (fieldOP op).toNat = Laws.EncodesLegally.opOf (dec w))
    (hdec : ∀ w, operandsFrom w (dec w) = dec w) : EncodedAs op dec := by
  refine ⟨?_, fun w _ hres => ?_⟩
  · rintro w rfl
    rw [fieldRES0, extractLsb'_and_of_allOnes (by decide)] at h0
    rw [fieldRES1, extractLsb'_and_of_allOnes (by decide)] at h1
    refine decode_eq_ok_iff.mpr ⟨h0, h1, ?_, hdec w⟩
    rw [← hop w, fieldOP, fieldOP, extractLsb'_and_of_allOnes (by decide)]
  · have hd := decode_of_reserved_ne_zero hres
    exact ⟨hd, fun s hb hw => engineMove_of_decode_error hb (hw ▸ hd)⟩

/-! ### WAIT (30_encoding.md R90; R106) -/

/-- STATUS reads change nothing but what the host has read. -/
theorem runSteps_polls {n : Nat} {s : State} {rest : List Move}
    (hm : s.moves = List.replicate n (rd32 0x0C) ++ rest) (m : Nat) :
    ∃ r, runSteps (n + m) s = runSteps m { s with moves := rest, rdata := r } := by
  induction n generalizing s with
  | zero =>
    rw [List.replicate_zero, List.nil_append] at hm
    subst hm
    exact ⟨s.rdata, by rw [Nat.zero_add]⟩
  | succ n ih =>
    have hstep := (step_host hm).trans (congrArg _ (hostAccess_readStatus _))
    obtain ⟨r, hr⟩ := ih (s := respond (statusWord s) { s with moves := List.replicate n (rd32 0x0C) ++ rest }) rfl
    exact ⟨r, by rw [Nat.add_right_comm, runSteps_succ hstep]; exact hr⟩

/-- A WAIT runs the latched command to its completion, whatever the number of polls, and then reads STATUS. -/
theorem runSteps_waitFor {n : Nat} {s : State} {i : Instr} {rest : List Move} (hb : s.BUSY = true)
    (hd : decode s.CMDQ = .ok i) (hm : s.moves = waitFor n ++ rest) (m : Nat) :
    ∃ r u, exec i { s with moves := rd32 0x0C :: rest, rdata := r } = .next u
      ∧ runSteps (n + (m + 2)) s = runSteps m (respond (statusWord u) { u with moves := rest }) := by
  rw [waitFor, List.append_assoc] at hm
  obtain ⟨r, hr⟩ := runSteps_polls hm (m + 2)
  have hmove := engineMove_of_decode_ok (s := { s with moves := rd32 0x0C :: rest, rdata := r }) hb hd
  obtain ⟨u, hu, hout⟩ := engineMove_completes (s := { s with moves := rd32 0x0C :: rest, rdata := r }) hb
  have hread := (step_host hout.moves).trans (congrArg _ (hostAccess_readStatus _))
  refine ⟨r, u, hmove.symm.trans hu, hr.trans ?_⟩
  exact (runSteps_succ ((step_engine rfl).trans hu) (m + 1)).trans (runSteps_succ hread m)

/-- A CMD write in an idle block latches its word (R100), and the WAIT after it runs the word's command. -/
theorem runSteps_command {n : Nat} {s : State} {w : Word} {i : Instr} {rest : List Move} (hb : s.BUSY = false)
    (hd : decode w = .ok i) (hm : s.moves = cmdWord w :: waitFor n ++ rest) (m : Nat) :
    ∃ r u, exec i { s with CMDQ := w, BUSY := true, DONE := false, moves := rd32 0x0C :: rest, rdata := r } = .next u
      ∧ runSteps (n + (m + 3)) s = runSteps m (respond (statusWord u) { u with moves := rest }) := by
  have hcmd : step s = .next (endWrite (acceptCommand w { s with moves := waitFor n ++ rest })) := by
    rw [step_host hm, hostAccess_cmd (by exact hb)]
    rfl
  obtain ⟨r, u, hu, hrun⟩ :=
    runSteps_waitFor (s := endWrite (acceptCommand w { s with moves := waitFor n ++ rest })) rfl hd rfl m
  exact ⟨r, u, hu, (runSteps_succ hcmd (n + (m + 2))).trans hrun⟩

/-! ### NOP (R105) -/

/-- Settles O11: the CMD write latches the word 0, the WAIT completes it, and NOP only completes. -/
theorem nopCommand : Obligations.NopCommand := by
  refine ⟨encodedAs rfl rfl (fun _ => rfl) fun _ => rfl, fun s => rfl, fun s n rest hb hm => ?_, rfl⟩
  rw [show encode .nop = 0 from rfl] at hm
  obtain ⟨r, u, hu, hrun⟩ := runSteps_command hb (i := .nop) (by rfl) hm 0
  refine ⟨_, hrun, ?_⟩
  cases hu
  refine ⟨?_, fun herr hcode hconf hend => ?_⟩
  · simp [respond, hb]
  · simp [respond, statusWord, herr, hcode, hconf, hend]

end Sys2Proof.Machine

/-! ## Word arithmetic (41_word_arithmetic.md) -/

namespace Sys2Proof.Machine

/-! ### The three functions (R120–R122) -/

theorem add32_eq_ofNat (a b : Word) : add32 a b = BitVec.ofNat 32 (a.toNat + b.toNat) := by
  simp [add32, BitVec.ofNat_add]

theorem xor32_eq_ofNat (a b : Word) : xor32 a b = BitVec.ofNat 32 (a.toNat ^^^ b.toNat) := by
  simp [xor32, BitVec.ofNat_xor]

/-- The document's formula is the library's rotation: an amount below 32 is not reduced. -/
theorem rotl32_eq_rotateLeft (v : Word) (n : Amount) : rotl32 v n = v.rotateLeft n.val :=
  (BitVec.rotateLeft_eq_rotateLeftAux_of_lt n.isLt).symm

/-- The formula on unbounded shifts: only the left shift can leave the Word, so one reduction at the end is enough. -/
theorem toNat_rotl32 (v : Word) (n : Amount) :
    (rotl32 v n).toNat = ((v.toNat <<< n.val) ||| (v.toNat >>> (32 - n.val))) % 2 ^ 32 := by
  have hright : v.toNat >>> (32 - n.val) < 2 ^ 32 := (Nat.shiftRight_le _ _).trans_lt v.isLt
  rw [rotl32, BitVec.toNat_or, BitVec.toNat_shiftLeft, BitVec.toNat_ushiftRight, Nat.or_mod_two_pow,
    Nat.mod_eq_of_lt hright]

/-- A rotation moves bit `i - n` to bit `i`; below the amount, the bit has wrapped around from the top. -/
theorem getLsbD_rotl32 (v : Word) (n : Amount) (i : Fin 32) :
    (rotl32 v n).getLsbD i = v.getLsbD ((i.val + 32 - n.val) % 32) := by
  rw [rotl32_eq_rotateLeft, BitVec.getLsbD_rotateLeft, Nat.mod_eq_of_lt n.isLt]
  by_cases hwrap : i.val < n.val
  · have hsrc : (i.val + 32 - n.val) % 32 = 32 - n.val + i.val := by omega
    simp [hwrap, hsrc]
  · have hsrc : (i.val + 32 - n.val) % 32 = i.val - n.val := by omega
    simp [hwrap, hsrc]

/-- A rotation by 0 is the identity (R122). -/
theorem rotl32_zero (v : Word) : rotl32 v 0 = v := by
  refine BitVec.eq_of_getLsbD_eq fun i hi => (getLsbD_rotl32 v 0 ⟨i, hi⟩).trans ?_
  simp [Nat.mod_eq_of_lt hi]

/-- A rotation left by 31 is a rotation right by 1. -/
theorem rotl32_thirtyOne (v : Word) : rotl32 v 31 = v.rotateRight 1 := by
  rw [BitVec.rotateRight_def, BitVec.or_comm]
  rfl

/-- Settles O12, from the laws of `BitVec` addition and exclusive or. -/
theorem addAndXorFunctions : Obligations.AddAndXorFunctions := by
  refine ⟨BitVec.toNat_add, by decide, by decide, by decide, BitVec.add_comm, BitVec.add_assoc, BitVec.add_zero,
    fun a b i => ?_, fun _ => BitVec.xor_self, fun _ => BitVec.xor_zero⟩
  rw [xor32, BitVec.getLsbD_xor, bne_iff_ne]

/-- Settles O13: the formula and its bits hold for every word and amount; the examples are evaluated. -/
theorem rotlFormula : Obligations.RotlFormula :=
  ⟨fun v n => ⟨toNat_rotl32 v n, getLsbD_rotl32 v n⟩, rotl32_zero, by decide, by decide, by decide⟩

/-! ### The operand fields of a word (30_encoding.md R81) -/

theorem fieldRA_eq_indexAt (w : Word) : fieldRA w = indexAt w 8 := extractLsb'_eq_indexAt w 8

theorem fieldRB_eq_indexAt (w : Word) : fieldRB w = indexAt w 12 := extractLsb'_eq_indexAt w 12

theorem fieldRD_eq_indexAt (w : Word) : fieldRD w = indexAt w 20 := extractLsb'_eq_indexAt w 20

theorem fieldSH_eq_amountAt (w : Word) : fieldSH w = amountAt w 24 := by
  simp [fieldSH, amountAt, BitVec.extractLsb'_toNat, Nat.shiftRight_eq_div_pow]

/-! ### The three commands (R124–R126) -/

/-- A command that writes one word of S and completes, field by field: the frame of ADD32, XOR32 and ROTL32. -/
theorem complete_writeS (rd : WordIndex) (v : Word) (s : State) :
    complete (writeS rd v s) = { s with S := s.S.set rd.val v rd.isLt, BUSY := false, DONE := true } := rfl

theorem exec_add32 (ra rb rd : WordIndex) (s : State) :
    exec (.add32 ra rb rd) s = .next (complete (writeS rd (add32 s.S[ra] s.S[rb]) s)) := rfl

theorem exec_xor32 (ra rb rd : WordIndex) (s : State) :
    exec (.xor32 ra rb rd) s = .next (complete (writeS rd (xor32 s.S[ra] s.S[rb]) s)) := rfl

theorem exec_rotl32 (ra : WordIndex) (sh : Amount) (rd : WordIndex) (s : State) :
    exec (.rotl32 ra sh rd) s = .next (complete (writeS rd (rotl32 s.S[ra] sh) s)) := rfl

/-- The word a command of this group has written is what S then holds there. -/
theorem complete_writeS_S_self (rd : WordIndex) (v : Word) (s : State) : (complete (writeS rd v s)).S[rd] = v :=
  readS_writeS_self rd v s

/-- Settles O14: both sources are read from the old state, so a destination among them needs no case of its own. -/
theorem addCommand : Obligations.AddCommand := by
  refine ⟨encodedAs rfl rfl (fun _ => rfl) fun w => ?_, fun ra rb rd s => ?_, fun _ _ _ => rfl,
    fun s h0 h1 => ⟨rfl, _, rfl, ?_⟩⟩
  · rw [operandsFrom, fieldRA_eq_indexAt, fieldRB_eq_indexAt, fieldRD_eq_indexAt]
  · rw [exec_add32, complete_writeS, add32_eq_ofNat]
  · calc _ = add32 s.S[0] s.S[1] := complete_writeS_S_self 2 _ s
      _ = 0 := by rw [h0, h1]; decide

/-- Settles O15: the exclusive or of the words is that of their values, which needs no reduction. -/
theorem xorCommand : Obligations.XorCommand := by
  refine ⟨encodedAs rfl rfl (fun _ => rfl) fun w => ?_, fun ra rb rd s => ?_, fun _ _ _ => rfl,
    fun s h0 h1 => ⟨rfl, _, rfl, ?_⟩⟩
  · rw [operandsFrom, fieldRA_eq_indexAt, fieldRB_eq_indexAt, fieldRD_eq_indexAt]
  · rw [exec_xor32, complete_writeS, xor32_eq_ofNat]
  · calc _ = xor32 s.S[0] s.S[1] := complete_writeS_S_self 0 _ s
      _ = 0xF0F00F0F := by rw [h0, h1]; decide

/-- Settles O16: the word written is a rotation by SH, and the amounts 0 and 31 are a copy and a rotation right by 1. -/
theorem rotlCommand : Obligations.RotlCommand := by
  refine ⟨encodedAs rfl rfl (fun _ => rfl) fun w => ?_, fun ra rd sh s => ?_, fun ra rd s => ?_, fun ra rd s => ?_,
    fun _ _ _ => rfl, rfl, fun s h4 => ⟨rfl, _, rfl, ?_⟩⟩
  · rw [operandsFrom, fieldRA_eq_indexAt, fieldSH_eq_amountAt, fieldRD_eq_indexAt]
  · rw [exec_rotl32, complete_writeS, rotl32_eq_rotateLeft]
  · rw [exec_rotl32, complete_writeS, rotl32_zero]
  · rw [exec_rotl32, complete_writeS, rotl32_thirtyOne]
  · calc _ = rotl32 s.S[4] 7 := complete_writeS_S_self 4 _ s
      _ = 0x00000080 := by rw [h4]; decide

/-! ### The pseudo-instructions (R127; 30_encoding.md R89) -/

/-- Settles O17: each is one command of the group, on a repeated operand or with the amount 0. -/
theorem pseudoInstructionsCompute : Obligations.PseudoInstructionsCompute := by
  refine ⟨fun d a s => ?_, fun d s => ?_, fun d a s => ?_, rfl, rfl⟩
  · rw [mov32, exec_rotl32, complete_writeS, rotl32_zero]
  · rw [clr32, exec_xor32, complete_writeS, xor32, BitVec.xor_self]
    rfl
  · rw [dbl32, exec_add32, complete_writeS, add32_eq_ofNat, Nat.two_mul]

end Sys2Proof.Machine

/-! ## The permutation network (42_permutation.md) -/

namespace Sys2Proof.Machine

/-! ### Commands that only transform S -/

/-- The command replaces S by `f` of S, completes, and changes nothing else. -/
def Transforms (i : Instr) (f : StateVec → StateVec) : Prop :=
  ∀ s : State, exec i s = .next { s with S := f s.S, BUSY := false, DONE := true }

theorem transforms_rowround : Transforms .rowround rowRound := fun _ => rfl

theorem transforms_colround : Transforms .colround columnRound := fun _ => rfl

theorem transforms_dblround : Transforms .dblround doubleRound := fun _ => rfl

theorem runCommands_cons {i : Instr} {s t : State} (h : exec i s = .next t) (rest : List Instr) :
    runCommands (i :: rest) s = runCommands rest t := by
  rw [runCommands, h]

/-- Such commands one after another compose their functions; one completion is as good as many. -/
theorem runCommands_map {α : Type} {cmd : α → Instr} {f : α → StateVec → StateVec}
    (h : ∀ a, Transforms (cmd a) (f a)) (a : α) (rest : List α) (s : State) :
    runCommands ((a :: rest).map cmd) s =
      .next { s with S := (a :: rest).foldl (fun y b => f b y) s.S, BUSY := false, DONE := true } := by
  induction rest generalizing a s with
  | nil => exact runCommands_cons (h a s) []
  | cons b rest ih => exact (runCommands_cons (h a s) _).trans (ih b _)

/-! ### The quarter-round (R140) -/

theorem quarterRound_equations (y0 y1 y2 y3 : Word) :
    (quarterRound y0 y1 y2 y3).z1 = y1 ^^^ (y0 + y3).rotateLeft 7
      ∧ (quarterRound y0 y1 y2 y3).z2 = y2 ^^^ ((quarterRound y0 y1 y2 y3).z1 + y0).rotateLeft 9
      ∧ (quarterRound y0 y1 y2 y3).z3
        = y3 ^^^ ((quarterRound y0 y1 y2 y3).z2 + (quarterRound y0 y1 y2 y3).z1).rotateLeft 13
      ∧ (quarterRound y0 y1 y2 y3).z0
        = y0 ^^^ ((quarterRound y0 y1 y2 y3).z3 + (quarterRound y0 y1 y2 y3).z2).rotateLeft 18 :=
  ⟨congrArg (y1 ^^^ ·) (rotl32_eq_rotateLeft _ 7), congrArg (y2 ^^^ ·) (rotl32_eq_rotateLeft _ 9),
    congrArg (y3 ^^^ ·) (rotl32_eq_rotateLeft _ 13), congrArg (y0 ^^^ ·) (rotl32_eq_rotateLeft _ 18)⟩

theorem quarterRound_one : quarterRound 1 0 0 0 = ⟨0x08008145, 0x00000080, 0x00010200, 0x20500000⟩ := by decide

/-! ### A quarter-round on four words of a state vector (R141) -/

/-- The words of `y` at four positions. -/
def line (p : Fin 4 → WordIndex) (y : StateVec) : Quad := ⟨y[p 0], y[p 1], y[p 2], y[p 3]⟩

/-- `quarterRound` as a function on quadruples. -/
def Quad.quarterRound (q : Quad) : Quad := Machine.quarterRound q.z0 q.z1 q.z2 q.z3

/-- The quarter-round on the words of `y` at four positions, written back where they were read. -/
def quarterRoundOn (p : Fin 4 → WordIndex) (y : StateVec) : StateVec :=
  let q := (line p y).quarterRound
  (((y.set (p 0) q.z0).set (p 1) q.z1).set (p 2) q.z2).set (p 3) q.z3

theorem quarterRoundAt_eq (p : Fin 4 → WordIndex) (s : State) :
    quarterRoundAt (p 0) (p 1) (p 2) (p 3) s = { s with S := quarterRoundOn p s.S } := rfl

theorem line_eq_line_iff {p : Fin 4 → WordIndex} {y z : StateVec} : line p y = line p z ↔ ∀ k, y[p k] = z[p k] := by
  simp [line, Fin.forall_fin_succ]

theorem getElem_quarterRoundOn_other {p : Fin 4 → WordIndex} {j : WordIndex} (hj : j ∉ [p 0, p 1, p 2, p 3])
    (y : StateVec) : (quarterRoundOn p y)[j] = y[j] :=
  readS_quarterRoundAt hj (writeAllS y State.reset)

/-- The statements' form of QROUND's operand check, and the model's (40_command_control.md R102). -/
theorem nodup_iff_distinctIndices {a b c d : WordIndex} : [a, b, c, d].Nodup ↔ distinctIndices a b c d := by
  simp [and_assoc]

theorem nodup_iff_injective {p : Fin 4 → WordIndex} : [p 0, p 1, p 2, p 3].Nodup ↔ p.Injective :=
  List.nodup_ofFn (f := p)

/-- On distinct positions no result overwrites another. -/
theorem line_quarterRoundOn {p : Fin 4 → WordIndex} (hp : p.Injective) (y : StateVec) :
    line p (quarterRoundOn p y) = (line p y).quarterRound := by
  have hne : ∀ k l : Fin 4, k ≠ l → (p k).val ≠ (p l).val := fun k l hkl h => hkl (hp (Fin.ext h))
  simp [line, quarterRoundOn, hne]

theorem transforms_qround {p : Fin 4 → WordIndex} (hp : p.Injective) :
    Transforms (.qround (p 0) (p 1) (p 2) (p 3)) (quarterRoundOn p) := fun _ =>
  if_pos (nodup_iff_distinctIndices.mp (nodup_iff_injective.mpr hp))

theorem fieldRC_eq_indexAt (w : Word) : fieldRC w = indexAt w 16 := extractLsb'_eq_indexAt w 16

/-- Settles O18: QROUND on distinct indices is a quarter-round on four positions, and fails its check otherwise. -/
theorem qroundCommand : Obligations.QroundCommand := by
  refine ⟨quarterRound_equations, by decide, quarterRound_one, encodedAs rfl rfl (fun _ => rfl) fun w => ?_,
    fun ra rb rc rd s hnodup => ?_, fun ra rb rc rd s hnodup => ?_, fun _ _ _ _ => rfl,
    fun s h0 h1 h2 h3 => ⟨rfl, ?_⟩⟩
  · rw [operandsFrom, fieldRA_eq_indexAt, fieldRB_eq_indexAt, fieldRC_eq_indexAt, fieldRD_eq_indexAt]
  · have hp : Function.Injective ![ra, rb, rc, rd] := nodup_iff_injective.mp hnodup
    exact ⟨_, transforms_qround hp s, (line_quarterRoundOn hp s.S).symm,
      fun j hj => getElem_quarterRoundOn_other (p := ![ra, rb, rc, rd]) hj s.S⟩
  · rw [nodup_iff_distinctIndices] at hnodup
    exact (if_neg hnodup).trans (congrArg _ (failCommand_eq .illegalOperand s))
  · have hp : Function.Injective ![(0 : WordIndex), 1, 2, 3] := by decide
    refine ⟨_, transforms_qround hp s, ?_⟩
    have hline : line ![0, 1, 2, 3] s.S = ⟨1, 0, 0, 0⟩ := by simp [line, h0, h1, h2, h3]
    have hquad := line_quarterRoundOn hp s.S
    rw [hline] at hquad
    simpa [line] using hquad.trans quarterRound_one

/-! ### A round: one quarter-round on each of four lines (R142, R144) -/

/-- `round` is one quarter-round on each of the four lines `pos 0` .. `pos 3`, and every word is at exactly one of
their positions. -/
structure IsRound (pos : Fin 4 → Fin 4 → WordIndex) (round : StateVec → StateVec) : Prop where
  line_round : ∀ y i, (line (pos i) y).quarterRound = line (pos i) (round y)
  positions : Function.Bijective (Function.uncurry pos)

theorem isRound_rowRound : IsRound rowPosition rowRound where
  line_round y i := by fin_cases i <;> rfl
  positions := by decide

theorem isRound_columnRound : IsRound columnPosition columnRound where
  line_round y j := by fin_cases j <;> rfl
  positions := by decide

/-- The example of R142. -/
theorem rowRound_onesInColumnZero :
    rowRound #v[1, 0, 0, 0, 1, 0, 0, 0, 1, 0, 0, 0, 1, 0, 0, 0]
      = #v[0x08008145, 0x00000080, 0x00010200, 0x20500000, 0x20100001, 0x00048044, 0x00000080, 0x00010000,
           0x00000001, 0x00002000, 0x80040000, 0x00000000, 0x00000001, 0x00000200, 0x00402000, 0x88000100] := by
  decide +kernel

/-- The example of R144. -/
theorem columnRound_onesInColumnZero :
    columnRound #v[1, 0, 0, 0, 1, 0, 0, 0, 1, 0, 0, 0, 1, 0, 0, 0]
      = #v[0x10090288, 0, 0, 0, 0x00000101, 0, 0, 0, 0x00020401, 0, 0, 0, 0x40A04001, 0, 0, 0] := by
  decide +kernel

/-- Settles O19: the table of rowRound, line by line. -/
theorem rowRoundPositions : Obligations.RowRoundPositions :=
  ⟨isRound_rowRound.line_round, (Function.bijective_iff_existsUnique _).mp isRound_rowRound.positions,
    rowRound_onesInColumnZero⟩

/-- Settles O20: the table of columnRound, line by line. -/
theorem columnRoundPositions : Obligations.ColumnRoundPositions :=
  ⟨isRound_columnRound.line_round, (Function.bijective_iff_existsUnique _).mp isRound_columnRound.positions,
    columnRound_onesInColumnZero⟩

namespace IsRound

variable {pos : Fin 4 → Fin 4 → WordIndex} {round : StateVec → StateVec}

theorem pos_inj (h : IsRound pos round) {i i' k k' : Fin 4} (heq : pos i k = pos i' k') : i = i' ∧ k = k' :=
  Prod.ext_iff.mp (h.positions.injective (a₁ := (i, k)) (a₂ := (i', k')) heq)

theorem line_injective (h : IsRound pos round) (i : Fin 4) : (pos i).Injective := fun _ _ heq => (h.pos_inj heq).2

/-- Two state vectors that agree on the four lines are equal. -/
theorem eq_of_line_eq (h : IsRound pos round) {y z : StateVec} (hlines : ∀ i, line (pos i) y = line (pos i) z) :
    y = z := by
  have hword : ∀ j : WordIndex, y[j] = z[j] := fun j => by
    obtain ⟨⟨i, k⟩, rfl⟩ := h.positions.surjective j
    exact line_eq_line_iff.mp (hlines i) k
  exact Vector.ext fun n hn => hword ⟨n, hn⟩

/-- A quarter-round on one line leaves the other lines as they were. -/
theorem line_quarterRoundOn_other (h : IsRound pos round) {i j : Fin 4} (hij : i ≠ j) (y : StateVec) :
    line (pos i) (quarterRoundOn (pos j) y) = line (pos i) y := by
  refine line_eq_line_iff.mpr fun k => getElem_quarterRoundOn_other (fun hmem => ?_) y
  obtain ⟨l, hl⟩ : ∃ l, pos i k = pos j l := by simpa [Fin.exists_fin_succ] using hmem
  exact hij (h.pos_inj hl).1

/-- After quarter-rounds on a list of lines without repetition, those lines are done and the others untouched. -/
theorem line_foldl (h : IsRound pos round) {order : List (Fin 4)} (hnodup : order.Nodup) (i : Fin 4) (y : StateVec) :
    line (pos i) (order.foldl (fun z j => quarterRoundOn (pos j) z) y) =
      if i ∈ order then (line (pos i) y).quarterRound else line (pos i) y := by
  induction order generalizing y with
  | nil => rfl
  | cons j rest ih =>
    obtain ⟨hj, hrest⟩ := List.nodup_cons.mp hnodup
    rw [List.foldl_cons, ih hrest]
    by_cases hij : i = j
    · subst hij
      rw [if_neg hj, if_pos List.mem_cons_self, line_quarterRoundOn (h.line_injective i)]
    · rw [h.line_quarterRoundOn_other hij]
      simp [hij]

/-- The four quarter-rounds in any order make the round. -/
theorem foldl_eq_round (h : IsRound pos round) {order : List (Fin 4)} (horder : order.Perm [0, 1, 2, 3])
    (y : StateVec) :
    order.foldl (fun z j => quarterRoundOn (pos j) z) y = round y := by
  refine h.eq_of_line_eq fun i => ?_
  have hmem : i ∈ order := horder.mem_iff.mpr (by fin_cases i <;> decide)
  rw [h.line_foldl (horder.nodup_iff.mpr (by decide)), if_pos hmem, h.line_round]

/-- The four QROUND commands of a round's lines, in any order, are one command that transforms S by the round. -/
theorem runCommands_qround (h : IsRound pos round) {cmd : Fin 4 → Instr}
    (hcmd : ∀ i, cmd i = .qround (pos i 0) (pos i 1) (pos i 2) (pos i 3)) {order : List (Fin 4)}
    (horder : order.Perm [0, 1, 2, 3]) (s : State) :
    runCommands (order.map cmd) s = .next { s with S := round s.S, BUSY := false, DONE := true } := by
  have htrans : ∀ i, Transforms (cmd i) (quarterRoundOn (pos i)) := fun i =>
    hcmd i ▸ transforms_qround (h.line_injective i)
  rw [← h.foldl_eq_round horder]
  cases order with
  | nil => exact absurd horder.length_eq (by decide)
  | cons i rest => exact runCommands_map htrans i rest s

end IsRound

/-! ### ROWROUND and COLROUND (R143, R145) -/

theorem rowRound_reset : rowRound State.reset.S = State.reset.S := by decide +kernel

theorem columnRound_reset : columnRound State.reset.S = State.reset.S := by decide +kernel

/-- QRROW names the words of a row in the order of rowRound (30_encoding.md R89). -/
theorem qrrow_eq (i : Fin 4) :
    qrrow i = .qround (rowPosition i 0) (rowPosition i 1) (rowPosition i 2) (rowPosition i 3) := by
  fin_cases i <;> rfl

/-- QRCOL names the words of a column in the order of columnRound (30_encoding.md R89). -/
theorem qrcol_eq (j : Fin 4) :
    qrcol j = .qround (columnPosition j 0) (columnPosition j 1) (columnPosition j 2) (columnPosition j 3) := by
  fin_cases j <;> rfl

/-- Settles O21: the rows are disjoint, so their quarter-rounds make rowRound in any order. -/
theorem rowroundCommand : Obligations.RowroundCommand :=
  ⟨encodedAs rfl rfl (fun _ => rfl) fun _ => rfl, transforms_rowround, rowRound_reset,
    fun s _ horder => (isRound_rowRound.runCommands_qround qrrow_eq horder s).trans (transforms_rowround s).symm,
    rfl, fun s hS => ⟨_, transforms_rowround s, (congrArg rowRound hS).trans rowRound_onesInColumnZero⟩⟩

/-- Settles O22: the columns are disjoint, so their quarter-rounds make columnRound in any order. -/
theorem colroundCommand : Obligations.ColroundCommand :=
  ⟨encodedAs rfl rfl (fun _ => rfl) fun _ => rfl, transforms_colround, columnRound_reset,
    fun s _ horder => (isRound_columnRound.runCommands_qround qrcol_eq horder s).trans (transforms_colround s).symm,
    rfl, fun s hS => ⟨_, transforms_colround s, (congrArg columnRound hS).trans columnRound_onesInColumnZero⟩⟩

/-! ### DBLROUND and PERMUTE (R147–R149) -/

theorem doubleRound_reset : doubleRound State.reset.S = State.reset.S := by
  rw [doubleRound, columnRound_reset, rowRound_reset]

/-- Settles O23: DBLROUND is by definition the composition of the two rounds. -/
theorem dblroundCommand : Obligations.DblroundCommand :=
  ⟨encodedAs rfl rfl (fun _ => rfl) fun _ => rfl, transforms_dblround, doubleRound_reset,
    fun s => (runCommands_cons (transforms_colround s) _).trans (runCommands_cons (transforms_rowround _) _), rfl,
    by decide +kernel, by decide +kernel⟩

theorem doubleRounds_eq_iterate (n : Nat) (y : StateVec) : doubleRounds n y = doubleRound^[n] y := by
  induction n generalizing y with
  | zero => rfl
  | succ n ih => exact ih (doubleRound y)

theorem permute_eq_iterate (y : StateVec) : permute y = doubleRound^[10] y := doubleRounds_eq_iterate 10 y

theorem exec_permute (s : State) :
    exec .permute s = .next { s with S := doubleRound^[10] s.S, BUSY := false, DONE := true } := by
  rw [← permute_eq_iterate]
  rfl

/-- Settles O24: the ten DBLROUND commands iterate doubleRound ten times, and zero is a fixed point of each. -/
theorem permuteCommand : Obligations.PermuteCommand := by
  refine ⟨encodedAs rfl rfl (fun _ => rfl) fun _ => rfl, exec_permute, ?_, fun s => ?_, rfl, by decide +kernel⟩
  · rw [permute_eq_iterate, Function.iterate_fixed doubleRound_reset]
  · rw [exec_permute]
    exact runCommands_map (fun _ : Unit => transforms_dblround) () (List.replicate 9 ()) s

end Sys2Proof.Machine

/-! ## The inverse of the permutation (42_permutation.md R140, R149; 43_block_function.md R174) -/

namespace Sys2Proof.Machine

/-- The quarter-round undone: the word that was changed last is recovered first. -/
def Quad.inverseQuarterRound (z : Quad) : Quad :=
  let y0 := xor32 z.z0 (rotl32 (add32 z.z3 z.z2) 18)
  let y3 := xor32 z.z3 (rotl32 (add32 z.z2 z.z1) 13)
  let y2 := xor32 z.z2 (rotl32 (add32 z.z1 y0) 9)
  let y1 := xor32 z.z1 (rotl32 (add32 y0 y3) 7)
  ⟨y0, y1, y2, y3⟩

/-- Each word was changed by an exclusive or with a value that is known again when the word is recovered. -/
theorem inverseQuarterRound_quarterRound : Function.LeftInverse Quad.inverseQuarterRound Quad.quarterRound :=
  fun y => by simp [Quad.inverseQuarterRound, Quad.quarterRound, quarterRound, xor32]

theorem finite_stateVec : Finite StateVec :=
  Finite.of_injective (fun (y : StateVec) (i : WordIndex) => y[i]) fun _ _ h =>
    Vector.ext fun n hn => congrFun h ⟨n, hn⟩

/-- Equal rounds have equal lines, whose quarter-rounds are undone; on a finite set that is enough. -/
theorem IsRound.bijective {pos : Fin 4 → Fin 4 → WordIndex} {round : StateVec → StateVec} (h : IsRound pos round) :
    round.Bijective := by
  have := finite_stateVec
  refine Finite.injective_iff_bijective.mp fun y z hyz => h.eq_of_line_eq fun i => ?_
  refine inverseQuarterRound_quarterRound.injective ?_
  rw [h.line_round, h.line_round, hyz]

/-- Settles O25: a round is a bijection, and the permutation iterates the composition of two rounds. -/
theorem permutationIsInvertible : Obligations.PermutationIsInvertible := by
  have hrow := isRound_rowRound.bijective
  have hcolumn := isRound_columnRound.bijective
  refine ⟨?_, hrow, hcolumn⟩
  rw [show permute = doubleRound^[10] from funext permute_eq_iterate]
  exact (hrow.comp hcolumn).iterate 10

end Sys2Proof.Machine

/-! ## Packing (43_block_function.md R170–R173) -/

namespace Sys2Proof.Machine

theorem toNat_pack (b0 b1 b2 b3 : Byte) :
    (pack b0 b1 b2 b3).toNat = b0.toNat + 256 * b1.toNat + 65536 * b2.toNat + 16777216 * b3.toNat := by
  rw [pack, toNat_append, toNat_append, toNat_append]
  omega

theorem pack_lanes (w : Word) : pack (lane w 0) (lane w 1) (lane w 2) (lane w 3) = w :=
  eq_of_lane_eq (lane_pack fun k => lane w k.val)

theorem unpack_pack (b0 b1 b2 b3 : Byte) : unpack (pack b0 b1 b2 b3) = #v[b0, b1, b2, b3] := by
  have hlane := lane_pack ![b0, b1, b2, b3]
  rw [unpack]
  congr
  exacts [hlane 0, hlane 1, hlane 2, hlane 3]

/-- Settles O26: a Word is determined by its four bytes, and pack puts each byte in its lane. -/
theorem packAndUnpackAreInverse : Obligations.PackAndUnpackAreInverse :=
  ⟨fun b0 b1 b2 b3 => ⟨toNat_pack b0 b1 b2 b3, unpack_pack b0 b1 b2 b3⟩,
    fun w => ⟨by simp only [unpack, lane_eq_byteOf], pack_lanes w⟩, by decide, by decide, by decide⟩

/-! ### Blocks of 64 bytes and of 16 Words (R172) -/

/-- Every byte of a block is byte k of a word i. -/
theorem exists_byte_of_word {m : Nat} (hm : m < 64) : ∃ (i : WordIndex) (k : Fin 4), 4 * i.val + k.val = m :=
  ⟨⟨m / 4, by omega⟩, ⟨m % 4, by omega⟩, Nat.div_add_mod m 4⟩

theorem getElem?_flatMap_unpack {l : List Word} {i : Nat} (hi : i < l.length) (k : Fin 4) :
    (l.flatMap fun x => (unpack x).toList)[4 * i + k.val]? = some (lane l[i] k.val) := by
  induction l generalizing i with
  | nil => cases hi
  | cons x rest ih =>
    rw [List.flatMap_cons]
    cases i with
    | zero =>
      rw [List.getElem?_append_left (by simp)]
      fin_cases k <;> rfl
    | succ i =>
      rw [List.getElem?_append_right (by simp; omega), Vector.length_toList,
        show 4 * (i + 1) + k.val - 4 = 4 * i + k.val by omega]
      exact ih (Nat.lt_of_succ_lt_succ hi)

theorem getElem_bytes (w : StateVec) (i : WordIndex) (k : Fin 4) :
    (bytes w)[4 * i.val + k.val]'(by omega) = lane w[i] k.val := by
  refine Option.some.inj ((Vector.getElem?_eq_getElem _).symm.trans ?_)
  simpa [bytes] using getElem?_flatMap_unpack (l := w.toList) (i := i.val) (by simp) k

theorem getElem_stateVecOf (f : WordIndex → Word) (i : WordIndex) : (stateVecOf f)[i] = f i := by
  fin_cases i <;> rfl

theorem getElem_words (b : Vector Byte 64) (i : WordIndex) : (words b)[i] = wordAt b i := getElem_stateVecOf _ i

theorem words_bytes (w : StateVec) : words (bytes w) = w := by
  refine Vector.ext fun n hn => ?_
  let i : WordIndex := ⟨n, hn⟩
  calc (words (bytes w))[i] = pack (lane w[i] 0) (lane w[i] 1) (lane w[i] 2) (lane w[i] 3) := by
        rw [getElem_words, wordAt]
        congr
        exacts [getElem_bytes w i 0, getElem_bytes w i 1, getElem_bytes w i 2, getElem_bytes w i 3]
    _ = w[i] := pack_lanes _

theorem bytes_words (b : Vector Byte 64) : bytes (words b) = b := by
  refine Vector.ext fun m hm => ?_
  obtain ⟨i, k, rfl⟩ := exists_byte_of_word hm
  rw [getElem_bytes, getElem_words]
  exact lane_pack (fun k => b[4 * i.val + k.val]'(by omega)) k

/-! ### The S window as bytes (R172; 20_memory.md R52, R61, R62) -/

theorem windowOffset_s (i : WordIndex) : windowOffset (.s i) = some (BitVec.ofNat 8 (0x40 + 4 * i.val)) := rfl

/-- The offset of byte k of S[i], from the window's base and from the word's own offset. -/
theorem ofNat_windowByte (i : WordIndex) (k : Fin 4) :
    BitVec.ofNat 8 (0x40 + (4 * i.val + k.val)) = BitVec.ofNat 8 (0x40 + 4 * i.val) + BitVec.ofNat 8 k.val := by
  rw [← Nat.add_assoc, BitVec.ofNat_add]

/-- A byte read of the S window in an idle block returns a byte of `bytes S`. -/
theorem hostAccess_readSByte {s : State} (hb : s.BUSY = false) (m : Fin 64) :
    (hostAccess (.read (BitVec.ofNat 8 (0x40 + m.val)) .one) s).rdata = some ((bytes s.S)[m].setWidth 32) := by
  obtain ⟨m, hm⟩ := m
  obtain ⟨i, k, rfl⟩ := exists_byte_of_word hm
  simp only [Fin.getElem_fin, getElem_bytes, ofNat_windowByte]
  rw [hostAccess_readWindowByte (windowOffset_s i) (.inl hb), respond_rdata, lane_eq_byteOf]
  rfl

/-- Settles O27: byte 4i + k is lane k of word i on both sides, and at offset 0x40 + 4i + k of the window. -/
theorem wordsAndBytesAreInverse : Obligations.WordsAndBytesAreInverse :=
  ⟨words_bytes, bytes_words, fun w i k => (getElem_bytes w i k).trans (lane_eq_byteOf _ _), getElem_words,
    fun _ m hb => hostAccess_readSByte hb m⟩

end Sys2Proof.Machine

/-! ## The block function (43_block_function.md R174–R176) -/

namespace Sys2Proof.Machine

theorem getElem_hash (x : StateVec) (i : WordIndex) : (hash x)[i] = add32 x[i] (permute x)[i] := getElem_stateVecOf _ i

theorem transforms_hash : Transforms .hash hash := fun _ => rfl

theorem permute_reset : permute State.reset.S = State.reset.S := by
  obtain ⟨-, -, hreset, -⟩ := permuteCommand
  exact hreset

/-- The zero state is a fixed point: it is one of the permutation, and 0 + 0 = 0. -/
theorem hash_reset : hash State.reset.S = State.reset.S := by
  rw [hash, permute_reset]
  decide

/-- Settles O28: HASH transforms S, word by word, and its example is the permutation's plus the input. -/
theorem hashCommand : Obligations.HashCommand := by
  obtain ⟨-, -, -, -, -, hperm⟩ := permuteCommand
  refine ⟨encodedAs rfl rfl (fun _ => rfl) fun _ => rfl, fun s => ⟨_, transforms_hash s, rfl, fun i => ?_⟩,
    fun _ => rfl, hash_reset, rfl, by rw [hperm]; rfl, ?_⟩
  · rw [getElem_hash, add32_eq_ofNat]
  · rintro x rfl
    rw [hash, hperm]
    decide

/-! ### Writing a view of S element by element (R176) -/

/-- Element p of a view of S is written by the access `write p a`, which leaves an idle block idle. -/
def WritesView {α : Type} {k : Nat} (view : StateVec → Vector α k) (write : Nat → α → Access) : Prop :=
  ∀ (p : Fin k) (a : α) (s : State), s.BUSY = false →
    (hostAccess (write p a) s).BUSY = false ∧ view (hostAccess (write p a) s).S = (view s.S).set p a

/-- The writes of successive elements, from element p on. -/
def writesFrom {α : Type} (write : Nat → α → Access) : Nat → List α → List Move
  | _, [] => []
  | p, a :: as => .host (write p a) :: writesFrom write (p + 1) as

/-- A byte write at byte p of the S window. -/
def writeSByte (p : Nat) (b : Byte) : Access := .write (BitVec.ofNat 8 (0x40 + p)) .one (b.setWidth 32)

/-- A word write at word p of the S window. -/
def writeSWord (p : Nat) (w : Word) : Access := .write (BitVec.ofNat 8 (0x40 + 4 * p)) .four w

theorem wrBytes_eq_writesFrom (p : Nat) (bs : List Byte) :
    wrBytes (BitVec.ofNat 8 (0x40 + p)) bs = writesFrom writeSByte p bs := by
  induction bs generalizing p with
  | nil => rfl
  | cons b bs ih =>
    have hoff : BitVec.ofNat 8 (0x40 + p) + 1 = BitVec.ofNat 8 (0x40 + (p + 1)) := (BitVec.ofNat_add (0x40 + p) 1).symm
    rw [wrBytes, hoff, ih]
    rfl

theorem wrWords_eq_writesFrom (p : Nat) (ws : List Word) :
    wrWords (BitVec.ofNat 8 (0x40 + 4 * p)) ws = writesFrom writeSWord p ws := by
  induction ws generalizing p with
  | nil => rfl
  | cons w ws ih =>
    have hoff : BitVec.ofNat 8 (0x40 + 4 * p) + 4 = BitVec.ofNat 8 (0x40 + 4 * (p + 1)) :=
      (BitVec.ofNat_add (0x40 + 4 * p) 4).symm
    rw [wrWords, hoff, ih]
    rfl

theorem writesView_writeSWord : WritesView (fun y => y) writeSWord := fun i w s hb => by
  rw [writeSWord, hostAccess_writeWindow (windowOffset_s i) hb]
  exact ⟨hb, rfl⟩

/-- One lane of one word replaced is one byte of the block replaced. -/
theorem bytes_set_withLane (w : StateVec) (i : WordIndex) (k : Fin 4) (b : Byte) :
    bytes (w.set i.val (withLane w[i] k.val b)) = (bytes w).set (4 * i.val + k.val) b := by
  refine Vector.ext fun m hm => ?_
  obtain ⟨i', k', rfl⟩ := exists_byte_of_word hm
  rw [getElem_bytes, Vector.getElem_set, getElem_bytes]
  by_cases hi : i = i'
  · subst hi
    simp [lane_withLane, Fin.ext_iff, eq_comm]
  · have hne : i.val ≠ i'.val := Fin.val_ne_of_ne hi
    have hbyte : 4 * i.val + k.val ≠ 4 * i'.val + k'.val := by omega
    simp [hne, hbyte]

theorem writesView_writeSByte : WritesView bytes writeSByte := fun ⟨m, hm⟩ b s hb => by
  obtain ⟨i, k, rfl⟩ := exists_byte_of_word hm
  rw [writeSByte, ofNat_windowByte, hostAccess_writeWindowByte (windowOffset_s i) hb,
    BitVec.setWidth_setWidth_of_le _ (by decide), BitVec.setWidth_eq]
  exact ⟨hb, bytes_set_withLane s.S i k b⟩

namespace WritesView

variable {α : Type} {k : Nat} {view : StateVec → Vector α k} {write : Nat → α → Access}

/-- A run of writes from element p to the last one leaves the elements before p, and then the ones written. -/
theorem runSteps_writesFrom (h : WritesView view write) {as : List α} {p : Nat} {s : State} {rest : List Move}
    (hlen : p + as.length = k) (hb : s.BUSY = false) (hm : s.moves = writesFrom write p as ++ rest) (m : Nat) :
    ∃ t, runSteps (as.length + m) s = runSteps m t ∧ t.moves = rest ∧ t.BUSY = false
      ∧ (view t.S).toList = (view s.S).toList.take p ++ as := by
  induction as generalizing p s with
  | nil => exact ⟨s, by rw [List.length_nil, Nat.zero_add], hm, hb, by simp [← hlen]⟩
  | cons a as ih =>
    rw [List.length_cons] at hlen
    obtain ⟨hbusy, hview⟩ := h ⟨p, by omega⟩ a { s with moves := writesFrom write (p + 1) as ++ rest } hb
    obtain ⟨t, hrun, hmoves, hidle, ht⟩ := ih (by omega) hbusy (hostAccess_moves _ _)
    refine ⟨t, ?_, hmoves, hidle, ?_⟩
    · rw [List.length_cons, Nat.add_right_comm]
      exact (runSteps_succ (step_host hm) _).trans hrun
    · have hp : p < (view s.S).toList.length := by rw [Vector.length_toList]; omega
      rw [ht, hview, Vector.toList_set, List.take_add_one, List.take_set_of_le (le_refl p), List.getElem?_set_self hp,
        List.append_assoc]
      rfl

/-- Writing every element leaves the elements written. -/
theorem runSteps_all (h : WritesView view write) {v : Vector α k} {s : State} {rest : List Move}
    (hb : s.BUSY = false) (hm : s.moves = writesFrom write 0 v.toList ++ rest) (m : Nat) :
    ∃ t, runSteps (k + m) s = runSteps m t ∧ t.moves = rest ∧ t.BUSY = false ∧ view t.S = v := by
  obtain ⟨t, hrun, hmoves, hidle, hview⟩ := h.runSteps_writesFrom (by simp) hb hm m
  exact ⟨t, by simpa using hrun, hmoves, hidle, Vector.toList_inj.mp (by simpa using hview)⟩

end WritesView

/-! ### HASH through the host port (R176) -/

/-- The CMD write of HASH and its WAIT leave an idle block that shows the hashed S. -/
theorem runSteps_hashCommand {n : Nat} {s : State} {rest : List Move} (hb : s.BUSY = false)
    (hm : s.moves = cmdWord (encode .hash) :: waitFor n ++ rest) :
    ∃ t, runSteps (n + 3) s = .next t ∧ t.moves = rest ∧ t.BUSY = false ∧ t.S = hash s.S := by
  obtain ⟨r, u, hu, hrun⟩ := runSteps_command hb (i := .hash) (by rfl) hm 0
  cases hu
  exact ⟨_, hrun, rfl, rfl, rfl⟩

/-- Writing a block in any view of S, then HASH and its completion, leaves generateBlock of it in the window. -/
theorem WritesView.runSteps_hash {α : Type} {k : Nat} {view : StateVec → Vector α k} {write : Nat → α → Access}
    (h : WritesView view write) {v : Vector α k} {b : Vector Byte 64} (hv : ∀ y, view y = v → y = words b) {n : Nat}
    {s : State} {rest : List Move} (hb : s.BUSY = false)
    (hm : s.moves = writesFrom write 0 v.toList ++ cmdWord (encode .hash) :: waitFor n ++ rest) :
    ∃ t : State, runSteps (k + 1 + (n + 2)) s = .next t ∧ t.moves = rest ∧ t.BUSY = false
      ∧ ∀ m : Fin 64, (hostAccess (.read (BitVec.ofNat 8 (0x40 + m.val)) .one) t).rdata
          = some ((generateBlock b)[m].setWidth 32) := by
  rw [List.append_assoc] at hm
  obtain ⟨s', hwrites, hmoves, hidle, hview⟩ := h.runSteps_all hb hm (n + 3)
  obtain ⟨t, hrun, hrest, hdone, hS⟩ := runSteps_hashCommand hidle hmoves
  refine ⟨t, ?_, hrest, hdone, fun m => ?_⟩
  · rw [show k + 1 + (n + 2) = k + (n + 3) by omega, hwrites, hrun]
  · rw [hostAccess_readSByte hdone, hS, hv _ hview]
    rfl

/-- Settles O29: the byte writes and the word writes are two views of S that leave the same words. -/
theorem hashOfBytesThroughTheHostPort : Obligations.HashOfBytesThroughTheHostPort := by
  intro s b n rest hb
  refine ⟨fun hm => ?_, fun hm => ?_⟩
  · rw [show wrBytes 0x40 b.toList = _ from wrBytes_eq_writesFrom 0 b.toList] at hm
    exact writesView_writeSByte.runSteps_hash (fun y hy => by rw [← hy, words_bytes]) hb hm
  · rw [show wrWords 0x40 (words b).toList = _ from wrWords_eq_writesFrom 0 (words b).toList] at hm
    exact writesView_writeSWord.runSteps_hash (fun _ hy => hy) hb hm

end Sys2Proof.Machine

/-! ## Key expansion (44_keystream.md R190–R193) -/

namespace Sys2Proof.Machine

theorem half_zero (v : BitVec 64) : half v 0 = BitVec.ofNat 32 v.toNat := by simp [half_eq_ofNat]

theorem half_one (v : BitVec 64) : half v 1 = BitVec.ofNat 32 (v.toNat / 2 ^ 32) := half_eq_ofNat v 1

theorem keyExpandWords_twoKey (cs : Config.Constants) (key : Vector Word 8) (nonce : Vector Word 2) (ctr : BitVec 64) :
    keyExpandWords cs .twoKey key nonce ctr
      = #v[cs.twoKey[0], key[0], key[1], key[2], key[3], cs.twoKey[1], nonce[0], nonce[1], BitVec.ofNat 32 ctr.toNat,
          BitVec.ofNat 32 (ctr.toNat / 2 ^ 32), cs.twoKey[2], key[4], key[5], key[6], key[7], cs.twoKey[3]] := by
  rw [← half_zero, ← half_one]
  rfl

theorem keyExpandWords_oneKey (cs : Config.Constants) (key : Vector Word 8) (nonce : Vector Word 2) (ctr : BitVec 64) :
    keyExpandWords cs .oneKey key nonce ctr
      = #v[cs.oneKey[0], key[0], key[1], key[2], key[3], cs.oneKey[1], nonce[0], nonce[1], BitVec.ofNat 32 ctr.toNat,
          BitVec.ofNat 32 (ctr.toNat / 2 ^ 32), cs.oneKey[2], key[0], key[1], key[2], key[3], cs.oneKey[3]] := by
  rw [← half_zero, ← half_one]
  rfl

/-- The counter's halves are words 8 and 9 of the layout. -/
theorem getElem_keyExpandWords_counter (cs : Config.Constants) (m : Config.KeyMode) (key : Vector Word 8)
    (nonce : Vector Word 2) (ctr : BitVec 64) (h : Fin 2) :
    (keyExpandWords cs m key nonce ctr)[8 + h.val] = half ctr h := by
  fin_cases h <;> rfl

/-- The bytes of a 64-bit register through its halves, the low byte first (20_memory.md R52). -/
theorem lane_half (v : BitVec 64) (h : Fin 2) (k : Fin 4) :
    lane (half v h) k.val = BitVec.ofNat 8 (v.toNat / 256 ^ (4 * h.val + k.val)) := by
  apply BitVec.eq_of_toNat_eq
  rw [toNat_lane, toNat_half, BitVec.toNat_ofNat]
  fin_cases h <;> fin_cases k <;> simp <;> omega

/-- Settles O30: the layout is written out, and its bytes 32 to 39 are those of words 8 and 9. -/
theorem keyExpandLayout : Obligations.KeyExpandLayout := by
  intro cs key nonce ctr
  refine ⟨rfl, rfl, keyExpandWords_twoKey cs key nonce ctr, keyExpandWords_oneKey cs key nonce ctr, fun k => ?_⟩
  obtain ⟨h, j, hk⟩ : ∃ (h : Fin 2) (j : Fin 4), k.val = 4 * h.val + j.val :=
    ⟨⟨k.val / 4, by omega⟩, ⟨k.val % 4, by omega⟩, (Nat.div_add_mod k.val 4).symm⟩
  have hbyte := getElem_bytes (keyExpandWords cs .twoKey key nonce ctr) ⟨8 + h.val, by omega⟩ j
  simp only [Fin.getElem_fin, getElem_keyExpandWords_counter, lane_half] at hbyte
  simp only [hk, ← hbyte]
  congr 1
  omega

/-! ### The constant table (R190) -/

theorem StepEvent.constants_eq {s t : State} (ev : StepEvent s t) : t.constants = s.constants := by
  cases ev with
  | streams => exact advance_constants _ _
  | clears => exact writeStatus_constants _ _
  | _ => rfl

/-- A run of n + 1 steps is a step and a run of n. -/
theorem run_succ_eq_next {M : Host.Core} {n : Nat} {s t : M.State} (h : M.run (n + 1) s = .next t) :
    ∃ u, M.step s = .next u ∧ M.run n u = .next t := by
  rw [Host.Core.run] at h
  split at h
  · exact ⟨_, ‹_›, h⟩
  · cases h
  · cases h

theorem runSteps_constants {n : Nat} {s t : State} (h : runSteps n s = .next t) : t.constants = s.constants := by
  induction n generalizing s with
  | zero =>
    cases h
    rfl
  | succ n ih =>
    obtain ⟨u, hu, hrun⟩ := run_succ_eq_next (M := core) h
    rw [ih hrun, (StepEvent.of_step hu).constants_eq]

/-- Settles O60: no event of a step writes the table, and the block function's input takes its constants from it. -/
theorem constantTablesNeverChange : Obligations.ConstantTablesNeverChange := by
  refine ⟨fun s t h => (StepEvent.of_step h).constants_eq, fun n s t => runSteps_constants, fun s c hkey => ?_,
    fun s c hkey => ?_⟩
  · rw [block, blockInput, hkey, ← keyExpandWords_twoKey]
    rfl
  · rw [block, blockInput, hkey, ← keyExpandWords_oneKey]
    rfl

end Sys2Proof.Machine

/-! ## The commands of the generator (44_keystream.md R194–R198) -/

namespace Sys2Proof.Machine

/-- A command whose check raises an error, field by field. -/
theorem exec_failed {i : Instr} {s : State} {e : ErrorCode} (h : checkInstr i s = some e) :
    exec i s = .next (failedCommand e.code s) := by
  rw [exec_of_checkInstr_some h, failCommand_eq]

/-! ### CONFIGURE (R194) -/

theorem exec_configure {s : State} (h : s.KEYLEN = 16 ∨ s.KEYLEN = 32) : exec .configure s = .next
    { s with CONFIGURED := true, KSBLK := 0, KSOFF := 0, KSEND := false, BUSY := false, DONE := true } := if_pos h

/-- Settles O31: a configured generator has a legal key length by the invariant, and a failure changes no CONFIGURED. -/
theorem configureCommand : Obligations.ConfigureCommand := by
  refine ⟨encodedAs rfl rfl (fun _ => rfl) fun _ => rfl, fun s => exec_configure, fun s h16 h32 => ⟨?_, ?_⟩,
    fun s hinv hconf => ?_, rfl, fun s hkey herr hcode => ⟨_, exec_configure (.inr hkey), ?_, rfl, rfl⟩⟩
  · exact exec_failed (e := .badKeylen) (if_neg (not_or.mpr ⟨h16, h32⟩))
  · rintro ⟨hlegal, -⟩
    exact Bool.eq_false_iff.mpr fun hconf => (hlegal hconf).elim h16 h32
  · obtain ⟨hlegal, -⟩ := hinv
    rw [exec_configure (hlegal hconf), ← hconf]
  · simp [statusWord, herr, hcode]

/-! ### EXPAND and GETBLOCK (R195–R198) -/

theorem exec_expand {s : State} (h : s.CONFIGURED = true) :
    exec .expand s = .next { s with S := blockInput s.BLKCTR s, BUSY := false, DONE := true } := if_pos h

theorem exec_getblock {s : State} (h : s.CONFIGURED = true) :
    exec .getblock s = .next { s with S := hash (blockInput s.BLKCTR s), BUSY := false, DONE := true } := if_pos h

/-- EXPAND and GETBLOCK in an unconfigured generator. -/
theorem exec_unconfigured {i : Instr} (hi : i = .expand ∨ i = .getblock) {s : State} (h : s.CONFIGURED = false) :
    exec i s = .next (failedCommand 4 s) := by
  have hcheck : checkInstr i s = some .notConfigured := by
    obtain rfl | rfl := hi <;> simp [checkInstr, h]
  exact exec_failed hcheck

/-- Settles O32: EXPAND leaves the block function's input in S, and HASH then applies the block function to it. -/
theorem expandCommand : Obligations.ExpandCommand := by
  refine ⟨encodedAs rfl rfl (fun _ => rfl) fun _ => rfl, fun s => exec_expand, fun s => exec_unconfigured (.inl rfl),
    fun s hconf => ?_, rfl, by decide⟩
  rw [exec_getblock hconf, runCommands_cons (exec_expand hconf), runCommands_cons (transforms_hash _)]
  rfl

/-- Settles O33: GETBLOCK leaves the block function's output in S, which takes its input from the named registers. -/
theorem getblockCommand : Obligations.GetblockCommand := by
  refine ⟨encodedAs rfl rfl (fun _ => rfl) fun _ => rfl, fun s hconf => ⟨_, exec_getblock hconf, rfl, rfl⟩,
    fun s => exec_unconfigured (.inr rfl), ?_, rfl, ?_⟩
  · intro s s' t t' hconf hconf' hconst hkey hnonce hlen hctr ht ht'
    cases (exec_getblock hconf).symm.trans ht
    cases (exec_getblock hconf').symm.trans ht'
    simp only [blockInput, hconst, hkey, hnonce, hlen, hctr]
  · rintro x rfl
    decide +kernel

end Sys2Proof.Machine

/-! ## What the generator and the host share (44_keystream.md R203, R204) -/

namespace Sys2Proof.Machine

/-- Everything a read at KS_DATA's offset can do, at any time (R199; 20_memory.md R60). -/
theorem hostAccess_readStream_cases (n : Size) (s : State) :
    (∃ k, hostAccess (.read 0xBC n) s = refusedAccess k (.read 0xBC n) s)
      ∨ hostAccess (.read 0xBC n) s = respond (streamValue n s) (advance n.toNat s) := by
  obtain ⟨-, h⟩ | ⟨-, -, h⟩ | ⟨-, -, -, -, hS, -⟩ | ⟨-, -, -, h⟩ := hostAccess_cases (.read 0xBC n) s
  · exact .inl ⟨_, h⟩
  · exact .inl ⟨_, h⟩
  · cases hS
  · replace h : hostAccess (.read 0xBC n) s = readKs (.read 0xBC n) s := h
    rw [h]
    obtain ⟨-, hk⟩ | ⟨-, -, hk⟩ | ⟨-, -, hk⟩ := readKs_cases (.read 0xBC n) s
    · exact .inl ⟨_, hk⟩
    · exact .inl ⟨_, hk⟩
    · exact .inr hk

@[simp] theorem hostAccess_readStream_BUSY (n : Size) (s : State) : (hostAccess (.read 0xBC n) s).BUSY = s.BUSY := by
  obtain ⟨k, h⟩ | h := hostAccess_readStream_cases n s <;> rw [h]
  · rfl
  · simp

/-- No command but CONFIGURE touches the stream position or CONFIGURED. -/
theorem exec_stream_unchanged {i : Instr} (hi : i ≠ .configure) {s t : State} (h : exec i s = .next t) :
    t.KSBLK = s.KSBLK ∧ t.KSOFF = s.KSOFF ∧ t.KSEND = s.KSEND ∧ t.CONFIGURED = s.CONFIGURED := by
  obtain ⟨e, he⟩ | ⟨v, he⟩ | ⟨hconf, -, -⟩ := exec_cases i s
  · cases he.symm.trans h
    rw [failCommand_eq]
    exact ⟨rfl, rfl, rfl, rfl⟩
  · cases he.symm.trans h
    exact ⟨rfl, rfl, rfl, rfl⟩
  · exact absurd hconf hi

/-- Settles O39: a KS_DATA read is refused or advances the position, and a command fails or writes S. -/
theorem streamAndCommandsAreIndependent : Obligations.StreamAndCommandsAreIndependent := by
  refine ⟨?_, fun i s t hi => exec_stream_unchanged hi⟩
  rintro s _ n rfl
  obtain ⟨k, h⟩ | h := hostAccess_readStream_cases n s <;> rw [h]
  · exact ⟨rfl, rfl, rfl, rfl, rfl, rfl, rfl, rfl, rfl, rfl⟩
  · simp

/-! ### BLKCTR (R204) -/

theorem engineMove_BLKCTR {s t : State} (h : engineMove s = .next t) : t.BLKCTR = s.BLKCTR := by
  cases hb : s.BUSY with
  | false =>
    cases (engineMove_idle hb).symm.trans h
    rfl
  | true =>
    obtain ⟨u, hu, hout⟩ := engineMove_completes hb
    cases hu.symm.trans h
    exact hout.blkctr

/-- A write to any register but BLKCTR leaves it as it was. -/
theorem writeReg_BLKCTR {r : Reg} (hr : ∀ h, r ≠ .blkctr h) (off : BitVec 8) (n : Size) (w : Word) (s : State) :
    (writeReg r off n w s).BLKCTR = s.BLKCTR := by
  cases r with
  | blkctr h => exact absurd rfl (hr h)
  | status => exact writeStatus_BLKCTR w s
  | _ => rfl

/-- A host access that changes BLKCTR is a write at one of its eight offsets. -/
theorem hostAccess_BLKCTR_changed {a : Access} {s : State} (h : (hostAccess a s).BLKCTR ≠ s.BLKCTR) :
    ∃ (off : BitVec 8) (n : Size) (w : Word), a = .write off n w ∧ 0xA8 ≤ off.toNat ∧ off.toNat ≤ 0xAF := by
  obtain ⟨-, ha⟩ | ⟨-, -, ha⟩ | ⟨-, -, -, -, -, ha⟩ | ⟨hpass, -, -, ha⟩ := hostAccess_cases a s
  · exact absurd (congrArg State.BLKCTR ha) h
  · exact absurd (congrArg State.BLKCTR ha) h
  · exact absurd (congrArg State.BLKCTR ha) h
  · cases a with
    | read off n =>
      by_cases hks : decodeOffset off = .ksData
      · obtain ⟨n', ⟨⟩⟩ := ksData_access hpass hks
        obtain ⟨k, hr⟩ | hr := hostAccess_readStream_cases n s
        · exact absurd (congrArg State.BLKCTR hr) h
        · exact absurd ((congrArg State.BLKCTR hr).trans (advance_BLKCTR _ _)) h
      · rw [performAccess, if_neg hks] at ha
        exact absurd (congrArg State.BLKCTR ha) h
    | write off n w =>
      refine ⟨off, n, w, rfl, ?_⟩
      by_contra hrange
      have hother (k : Fin 2) : decodeOffset off ≠ .blkctr k := fun hd => hrange <| by
        have hbase := (decodeOffset_eq_iff (by simp)).mp hd
        simp only [Reg.base] at hbase
        omega
      exact h ((congrArg State.BLKCTR ha).trans (writeReg_BLKCTR hother off n w s))

/-- Settles O34: of the three agents, the ENGINE never changes BLKCTR, and the HOST only by a write to it. -/
theorem blockCounterNeverAdvances : Obligations.BlockCounterNeverAdvances := by
  refine ⟨fun i s t h => (exec_sameOutside h).blkctr, fun s n => ?_, fun s t h hne => ?_⟩
  · by_contra h
    obtain ⟨off, n, w, ⟨⟩, -⟩ := hostAccess_BLKCTR_changed h
  · obtain ⟨-, hs⟩ | ⟨rest, -, hs⟩ | ⟨a, rest, hm, hs⟩ | ⟨rest, hm, -⟩ := step_cases s
    · exact absurd (engineMove_BLKCTR (hs.symm.trans h)) hne
    · exact absurd (engineMove_BLKCTR (hs.symm.trans h)) hne
    · cases hs.symm.trans h
      obtain ⟨off, n, w, rfl, hrange⟩ := hostAccess_BLKCTR_changed hne
      exact .inr ⟨off, n, w, congrArg List.head? hm, hrange⟩
    · exact .inl (congrArg List.head? hm)

end Sys2Proof.Machine

/-! ## The keystream port (44_keystream.md R199–R203) -/

namespace Sys2Proof.Machine

/-! ### The stream position (R200) -/

/-- The state with the stream at byte q, up to the end of the stream at 2^70. -/
def seekStream (q : Nat) (s : State) : State :=
  { s with
    KSBLK := if q = 2 ^ 70 then BitVec.allOnes 64 else BitVec.ofNat 64 (q / 64)
    KSOFF := if q = 2 ^ 70 then 0 else BitVec.ofNat 6 (q % 64)
    KSEND := decide (q = 2 ^ 70) }

/-- An advance seeks the position n bytes on (R200). -/
theorem advance_eq (n : Nat) (s : State) :
    advance n s =
      { seekStream (streamPosition s + n) s with KSEND := s.KSEND || decide (streamPosition s + n = 2 ^ 70) } := by
  by_cases hq : streamPosition s + n = 2 ^ 70
  · simp only [advance, seekStream, hq, if_true, decide_true, Bool.or_true]
  · simp only [advance, seekStream, hq, if_false, decide_false, Bool.or_false]

theorem advance_eq_seekStream {s : State} (h : s.KSEND = false) (n : Nat) :
    advance n s = seekStream (streamPosition s + n) s := by
  rw [advance_eq, h]
  rfl

/-- Before the end of the stream the position is the one sought. -/
theorem streamPosition_seekStream {q : Nat} (hq : q < 2 ^ 70) (s : State) : streamPosition (seekStream q s) = q := by
  simp only [streamPosition, seekStream, if_neg hq.ne, BitVec.toNat_ofNat]
  omega

theorem pastEnd_of_KSEND {s : State} (h : s.KSEND = true) (n : Nat) : pastEnd n s = true := pastEnd_eq_true.mpr (.inl h)

/-- A read is within the stream where its last byte is. -/
theorem pastEnd_eq_false {n : Nat} {s : State} (h : s.KSEND = false) (hq : streamPosition s + n ≤ 2 ^ 70) :
    pastEnd n s = false := by
  refine Bool.eq_false_iff.mpr fun hpast => ?_
  obtain hend | ⟨hblk, hoff⟩ := pastEnd_eq_true.mp hpast
  · cases h.symm.trans hend
  · rw [streamPosition] at hq
    omega

/-! ### The bytes read (R199) -/

/-- The loop of R199 reads the keystream at successive positions. -/
theorem streamBytes_eq_map (s : State) (n p : Nat) :
    streamBytes s n (BitVec.ofNat 64 (p / 64)) (BitVec.ofNat 6 (p % 64)) = (List.range' p n).map (keystreamByte s) := by
  induction n generalizing p with
  | zero => rfl
  | succ n ih =>
    have hoff : (BitVec.ofNat 6 (p % 64)).toNat = p % 64 := by
      rw [BitVec.toNat_ofNat]
      omega
    have hhead : (block (BitVec.ofNat 64 (p / 64)) s)[(BitVec.ofNat 6 (p % 64)).toNat] = keystreamByte s p := by
      simp only [hoff, keystreamByte]
    have hlast : BitVec.ofNat 6 (p % 64) = 63 ↔ p % 64 = 63 := by
      rw [← BitVec.toNat_inj, hoff]
      rfl
    rw [streamBytes, hhead, List.range'_succ, List.map_cons, ← ih (p + 1)]
    by_cases hwrap : p % 64 = 63
    · rw [if_pos (hlast.mpr hwrap), show (p + 1) / 64 = p / 64 + 1 by omega, show (p + 1) % 64 = 0 by omega,
        BitVec.ofNat_add]
      rfl
    · rw [if_neg (hwrap ∘ hlast.mp), show (p + 1) / 64 = p / 64 by omega, show (p + 1) % 64 = p % 64 + 1 by omega,
        BitVec.ofNat_add (p % 64)]
      rfl

/-- KSBLK and KSOFF are the block and the byte of the position. -/
theorem KSBLK_eq_streamPosition (s : State) : s.KSBLK = BitVec.ofNat 64 (streamPosition s / 64) := by
  have := s.KSOFF.isLt
  rw [streamPosition, show (s.KSBLK.toNat * 64 + s.KSOFF.toNat) / 64 = s.KSBLK.toNat by omega, BitVec.ofNat_toNat,
    BitVec.setWidth_eq]

theorem KSOFF_eq_streamPosition (s : State) : s.KSOFF = BitVec.ofNat 6 (streamPosition s % 64) := by
  have := s.KSOFF.isLt
  rw [streamPosition, show (s.KSBLK.toNat * 64 + s.KSOFF.toNat) % 64 = s.KSOFF.toNat by omega, BitVec.ofNat_toNat,
    BitVec.setWidth_eq]

theorem streamValue_eq {n : Size} (hn : n ≠ .two) (s : State) :
    streamValue n s = keystreamValue n s (streamPosition s) := by
  have hbytes := streamBytes_eq_map s n.toNat (streamPosition s)
  rw [← KSBLK_eq_streamPosition, ← KSOFF_eq_streamPosition] at hbytes
  rw [streamValue, hbytes]
  cases n with
  | one => rfl
  | two => exact absurd rfl hn
  | four => rfl

/-! ### A KS_DATA read in an idle block (R199, R200) -/

theorem readKs_unconfigured {s : State} (hconf : s.CONFIGURED = false) (n : Size) :
    readKs (.read 0xBC n) s = refusedAccess 4 (.read 0xBC n) s := by
  simpa [hconf] using readKs_cases (.read 0xBC n) s

theorem readKs_pastEnd {n : Size} {s : State} (hconf : s.CONFIGURED = true) (hend : pastEnd n.toNat s = true) :
    readKs (.read 0xBC n) s = refusedAccess 5 (.read 0xBC n) s := by
  simpa [hconf, hend, Access.size] using readKs_cases (.read 0xBC n) s

theorem readKs_performed {n : Size} {s : State} (hconf : s.CONFIGURED = true) (hend : pastEnd n.toNat s = false) :
    readKs (.read 0xBC n) s = respond (streamValue n s) (advance n.toNat s) := by
  simpa [hconf, hend, Access.size] using readKs_cases (.read 0xBC n) s

/-- A byte or word read of KS_DATA in an idle block passes the access and busy checks. -/
theorem hostAccess_readStream {n : Size} (hn : n ≠ .two) {s : State} (hb : s.BUSY = false) :
    hostAccess (.read 0xBC n) s = readKs (.read 0xBC n) s := by
  have ha : accessRefused (.read 0xBC n) = false := by
    cases n with
    | two => exact absurd rfl hn
    | one | four => decide
  exact hostAccess_of_passed ha (by rw [busyRefused, hb, Bool.false_and]) (.inl hb)

theorem hostAccess_readStream_pastEnd {n : Size} (hn : n ≠ .two) {s : State} (hb : s.BUSY = false)
    (hconf : s.CONFIGURED = true) (hend : pastEnd n.toNat s = true) :
    hostAccess (.read 0xBC n) s = refusedAccess 5 (.read 0xBC n) s :=
  (hostAccess_readStream hn hb).trans (readKs_pastEnd hconf hend)

/-- A read that the stream still has the bytes for returns them and moves on. -/
theorem hostAccess_readStream_performed {n : Size} (hn : n ≠ .two) {s : State} (hb : s.BUSY = false)
    (hconf : s.CONFIGURED = true) (hend : s.KSEND = false) (hq : streamPosition s + n.toNat ≤ 2 ^ 70) :
    hostAccess (.read 0xBC n) s
      = respond (keystreamValue n s (streamPosition s)) (seekStream (streamPosition s + n.toNat) s) := by
  rw [hostAccess_readStream hn hb, readKs_performed hconf (pastEnd_eq_false hend hq), streamValue_eq hn,
    advance_eq_seekStream hend]

/-- Settles O35: the two checks of the read, then the bytes at the position and the advance. -/
theorem keystreamRead : Obligations.KeystreamRead := by
  intro s n hb hn
  refine ⟨fun hconf => ?_, fun hconf hend => ?_, ?_⟩
  · exact (hostAccess_readStream hn hb).trans (readKs_unconfigured hconf n)
  · exact hostAccess_readStream_pastEnd hn hb hconf (pastEnd_eq_true.mpr hend)
  · rintro hconf hend _ _ rfl rfl hq
    exact hostAccess_readStream_performed hn hb hconf hend hq

/-! ### Reads at the end of the stream (R201) -/

/-- The first read of a run. -/
theorem runSteps_streamReads_cons {n : Size} {sizes : List Size} {s t : State} {rest : List Move}
    (hm : s.moves = streamReads (n :: sizes) ++ rest)
    (hread : hostAccess (.read 0xBC n) { s with moves := streamReads sizes ++ rest } = t) (m : Nat) :
    runSteps (m + 1) s = runSteps m t :=
  runSteps_succ ((step_host hm).trans (congrArg _ hread)) m

/-- At the end of the stream a run of reads has the effect of its first read: the position stays, and the later
refusals find the error recorded. -/
theorem runSteps_streamReads_ended {n : Size} {sizes : List Size} {s : State} {rest : List Move} (hb : s.BUSY = false)
    (hconf : s.CONFIGURED = true) (hend : s.KSEND = true) (hsizes : ∀ k ∈ n :: sizes, k ≠ .two)
    (hm : s.moves = streamReads (n :: sizes) ++ rest) :
    runSteps (sizes.length + 1) s = .next (refusedAccess 5 (.read 0xBC n) { s with moves := rest }) := by
  induction sizes generalizing n s with
  | nil =>
    obtain ⟨hn, -⟩ := List.forall_mem_cons.mp hsizes
    exact runSteps_streamReads_cons hm (hostAccess_readStream_pastEnd hn hb hconf (pastEnd_of_KSEND hend _)) 0
  | cons n' sizes ih =>
    obtain ⟨hn, hsizes⟩ := List.forall_mem_cons.mp hsizes
    exact (runSteps_streamReads_cons hm (hostAccess_readStream_pastEnd hn hb hconf (pastEnd_of_KSEND hend _)) _).trans
      (ih (n := n') hb hconf hend hsizes rfl)

/-- Settles O36: the run ends as its first read does, with the error that read recorded. -/
theorem counterOverflowIsFatalToTheRead : Obligations.CounterOverflowIsFatalToTheRead := by
  intro s sizes rest hb hconf hend hm hsizes hne
  cases sizes with
  | nil => exact absurd rfl hne
  | cons n sizes =>
    exact ⟨_, runSteps_streamReads_ended hb hconf hend hsizes hm, rfl, rfl, rfl, hend, rfl, hconf, rfl,
      fun herr => if_neg (Bool.eq_false_iff.mp herr)⟩

/-! ### Reads from CONFIGURE on (R202) -/

/-- A run of m + 1 reads of one size, up to the end of the stream at most: what the last one returns, and the position
it leaves. -/
theorem runSteps_streamReads_replicate {n : Size} (hn : n ≠ .two) {m p : Nat} {s : State} {rest : List Move}
    (hb : s.BUSY = false) (hconf : s.CONFIGURED = true) (hend : s.KSEND = false) (hp : streamPosition s = p)
    (hq : p + (m + 1) * n.toNat ≤ 2 ^ 70) (hm : s.moves = streamReads (List.replicate (m + 1) n) ++ rest) :
    runSteps (m + 1) s = .next (respond (keystreamValue n s (p + m * n.toNat))
      (seekStream (p + (m + 1) * n.toNat) { s with moves := rest })) := by
  induction m generalizing p s with
  | zero =>
    subst hp
    rw [Nat.zero_add, Nat.one_mul] at hq ⊢
    rw [Nat.zero_mul]
    exact runSteps_streamReads_cons hm (hostAccess_readStream_performed hn hb hconf hend hq) 0
  | succ m ih =>
    have hnext : p + (m + 1 + 1) * n.toNat = p + n.toNat + (m + 1) * n.toNat := by ring
    have hlast : p + (m + 1) * n.toNat = p + n.toNat + m * n.toNat := by ring
    have hmore : p + n.toNat < 2 ^ 70 := by
      have : 0 < (m + 1) * n.toNat := Nat.mul_pos m.succ_pos (by cases n <;> decide)
      omega
    subst hp
    rw [hnext] at hq ⊢
    rw [hlast]
    exact (runSteps_streamReads_cons hm (hostAccess_readStream_performed hn hb hconf hend hmore.le) _).trans
      (ih hb hconf (decide_eq_false hmore.ne) (streamPosition_seekStream hmore s) hq rfl)

theorem step_configure {s : State} {rest : List Move} (hkey : s.KEYLEN = 16 ∨ s.KEYLEN = 32) (hb : s.BUSY = true)
    (hd : decode s.CMDQ = .ok .configure) (hm : s.moves = .engine :: rest) : step s = .next
      { s with
        CONFIGURED := true, KSBLK := 0, KSOFF := 0, KSEND := false, BUSY := false, DONE := true, moves := rest } := by
  rw [step_engine hm]
  exact (engineMove_of_decode_ok (s := { s with moves := rest }) hb hd).trans (exec_configure hkey)

/-- CONFIGURE starts the stream at byte 0, and a run of reads of one size goes on from there. -/
theorem runSteps_configure_streamReads {k : Size} (hk : k ≠ .two) {n : Nat} {s : State} {rest : List Move}
    (hkey : s.KEYLEN = 16 ∨ s.KEYLEN = 32) (hb : s.BUSY = true) (hd : decode s.CMDQ = .ok .configure)
    (hm : s.moves = .engine :: streamReads (List.replicate (n + 1) k) ++ rest) (hq : (n + 1) * k.toNat ≤ 2 ^ 70) :
    ∃ t : State, runSteps (n + 2) s = .next t ∧ t.moves = rest ∧ t.ERR = s.ERR
      ∧ t.rdata = some (keystreamValue k s (n * k.toNat)) := by
  have hreads := runSteps_streamReads_replicate (p := 0) (m := n) (rest := rest) hk
    (s := { s with
      CONFIGURED := true, KSBLK := 0, KSOFF := 0, KSEND := false, BUSY := false, DONE := true
      moves := streamReads (List.replicate (n + 1) k) ++ rest })
    rfl rfl rfl rfl (by rwa [Nat.zero_add]) rfl
  rw [Nat.zero_add, Nat.zero_add] at hreads
  exact ⟨_, (runSteps_succ (step_configure hkey hb hd hm) _).trans hreads, rfl, rfl, rfl⟩

/-- Settles O37: the run of byte reads and the run of word reads, from position 0. -/
theorem getKeystream : Obligations.GetKeystream := by
  intro s rest n hkey hb hd
  refine ⟨fun hm hq => ?_, fun hm hq => ?_⟩
  · have hrun := runSteps_configure_streamReads (k := .one) nofun hkey hb hd hm (by rwa [Size.toNat, Nat.mul_one])
    rwa [Size.toNat, Nat.mul_one] at hrun
  · have hrun := runSteps_configure_streamReads (k := .four) nofun hkey hb hd hm (by rwa [Size.toNat, Nat.mul_comm])
    rwa [Size.toNat, Nat.mul_comm] at hrun

/-! ### What the stream depends on (R203) -/

/-- What may differ between two blocks that deliver the same stream: everything but the constant table, KEY, NONCE,
KEYLEN, CONFIGURED, the stream position and BUSY. -/
inductive SameStream (s : State) : State → Prop where
  | intro (S : StateVec) (ie done err : Bool) (code : BitVec 4) (info : Word) (ctr : BitVec 64) (cmdq : Word)
      (moves : List Move) (rdata : Option Word) (draws : Nat) :
      SameStream s
        { s with
          S := S, IE := ie, DONE := done, ERR := err, ERRCODE := code, ERRINFO := info, BLKCTR := ctr, CMDQ := cmdq
          moves := moves, rdata := rdata, draws := draws }

namespace SameStream

variable {s s' : State}

theorem of_eq (hconst : s.constants = s'.constants) (hb : s.BUSY = s'.BUSY) (hkey : s.KEY = s'.KEY)
    (hnonce : s.NONCE = s'.NONCE) (hlen : s.KEYLEN = s'.KEYLEN) (hconf : s.CONFIGURED = s'.CONFIGURED)
    (hblk : s.KSBLK = s'.KSBLK) (hoff : s.KSOFF = s'.KSOFF) (hend : s.KSEND = s'.KSEND) : SameStream s s' := by
  cases s
  cases s'
  simp only at *
  subst_vars
  exact .intro ..

theorem busy (h : SameStream s s') : s'.BUSY = s.BUSY := by
  cases h
  rfl

theorem configured (h : SameStream s s') : s'.CONFIGURED = s.CONFIGURED := by
  cases h
  rfl

theorem withMoves (h : SameStream s s') (moves : List Move) :
    SameStream { s with moves := moves } { s' with moves := moves } := by
  cases h
  exact .intro ..

theorem refused (h : SameStream s s') (k : BitVec 4) (a : Access) :
    SameStream (refusedAccess k a s) (refusedAccess k a s') := by
  cases h
  exact .intro ..

theorem pastEnd_eq (h : SameStream s s') (n : Nat) : pastEnd n s' = pastEnd n s := by
  cases h
  rfl

theorem streamValue_eq (h : SameStream s s') (n : Size) : streamValue n s' = streamValue n s := by
  cases h
  cases n <;> rfl

theorem respond_advance (h : SameStream s s') (w : Word) (n : Nat) :
    SameStream (respond w (advance n s)) (respond w (advance n s')) := by
  rw [advance_eq, advance_eq]
  cases h
  exact .intro ..

/-- A KS_DATA read passes the same checks in the two blocks, returns the same bytes and moves both streams on alike. -/
theorem of_hostAccess (h : SameStream s s') (hb : s.BUSY = false) (n : Size) :
    SameStream (hostAccess (.read 0xBC n) s) (hostAccess (.read 0xBC n) s')
      ∧ (hostAccess (.read 0xBC n) s).rdata = (hostAccess (.read 0xBC n) s').rdata := by
  by_cases hn : n = .two
  · subst hn
    rw [hostAccess_of_accessRefused rfl, hostAccess_of_accessRefused rfl]
    exact ⟨h.refused _ _, rfl⟩
  · rw [hostAccess_readStream hn hb, hostAccess_readStream hn (h.busy.trans hb)]
    cases hconf : s.CONFIGURED with
    | false =>
      rw [readKs_unconfigured hconf, readKs_unconfigured (h.configured.trans hconf)]
      exact ⟨h.refused _ _, rfl⟩
    | true =>
      cases hend : pastEnd n.toNat s with
      | true =>
        rw [readKs_pastEnd hconf hend, readKs_pastEnd (h.configured.trans hconf) ((h.pastEnd_eq _).trans hend)]
        exact ⟨h.refused _ _, rfl⟩
      | false =>
        rw [readKs_performed hconf hend, readKs_performed (h.configured.trans hconf) ((h.pastEnd_eq _).trans hend),
          h.streamValue_eq]
        exact ⟨h.respond_advance _ _, rfl⟩

/-- A run of reads leaves the two blocks with the same stream, and its last read returns the same. -/
theorem of_runSteps {sizes : List Size} {rest : List Move} (h : SameStream s s') (hb : s.BUSY = false)
    (hm : s.moves = streamReads sizes ++ rest) (hm' : s'.moves = streamReads sizes ++ rest)
    (hr : sizes = [] → s.rdata = s'.rdata) :
    ∃ t t', runSteps sizes.length s = .next t ∧ runSteps sizes.length s' = .next t' ∧ SameStream t t'
      ∧ t.rdata = t'.rdata := by
  induction sizes generalizing s s' with
  | nil => exact ⟨s, s', rfl, rfl, h, hr rfl⟩
  | cons n sizes ih =>
    obtain ⟨hsame, hread⟩ := (h.withMoves (streamReads sizes ++ rest)).of_hostAccess hb n
    obtain ⟨t, t', ht, ht', heq⟩ := ih hsame ((hostAccess_readStream_BUSY n _).trans hb) (hostAccess_moves _ _)
      (hostAccess_moves _ _) fun _ => hread
    exact ⟨t, t', (runSteps_streamReads_cons hm rfl _).trans ht, (runSteps_streamReads_cons hm' rfl _).trans ht',
      heq⟩

end SameStream

/-- Settles O38: the reads keep the two blocks on the same stream. -/
theorem streamDependsOnKeyNonceAndPosition : Obligations.StreamDependsOnKeyNonceAndPosition := by
  intro s s' sizes hconst hb hb' hkey hnonce hlen hconf hblk hoff hend hne hm hm'
  have h := SameStream.of_eq hconst (hb.trans hb'.symm) hkey hnonce hlen hconf hblk hoff hend
  obtain ⟨t, t', ht, ht', hsame, hread⟩ := h.of_runSteps hb (hm.trans (List.append_nil _).symm)
    (hm'.trans (List.append_nil _).symm) fun hnil => absurd hnil hne
  refine ⟨t, t', ht, ht', hread, ?_⟩
  cases hsame
  exact ⟨rfl, rfl, rfl⟩

end Sys2Proof.Machine

/-! ## Errors (60_exceptions.md) -/

namespace Sys2Proof.Machine

/-! ### The first-error record (R302, R303) -/

/-- Settles O51: `raise` is the rule's own case split on ERR. -/
theorem firstErrorIsKept : Obligations.FirstErrorIsKept :=
  fun _ _ _ => ⟨fun h => if_neg (Bool.eq_false_iff.mp h), fun h => if_pos h⟩

/-- From ERR = 0 a refused access records its own code. -/
theorem refusedAccess_ERRCODE {s : State} (herr : s.ERR = false) (k : BitVec 4) (a : Access) :
    (refusedAccess k a s).ERRCODE = k :=
  if_neg (Bool.eq_false_iff.mp herr)

/-- From ERR = 0 a refused access records its access word. -/
theorem refusedAccess_ERRINFO {s : State} (herr : s.ERR = false) (k : BitVec 4) (a : Access) :
    (refusedAccess k a s).ERRINFO = accessWord a :=
  (if_neg (Bool.eq_false_iff.mp herr)).trans (accessWord_eq a).symm

/-- The fields of the access word. -/
theorem accessWord_fields (a : Access) :
    (accessWord a).toNat % 256 = a.off.toNat ∧ (accessWord a).toNat / 256 % 4 = a.size.code.toNat
      ∧ (accessWord a).toNat / 1024 % 2 = a.isWrite.toNat ∧ (accessWord a).toNat < 2048 := by
  have hoff := a.off.isLt
  have hsize := a.size.code.isLt
  have hwrite := Bool.toNat_le a.isWrite
  rw [toNat_accessWord]
  omega

/-! ### The errors of a command (R303, R306) -/

/-- From ERR = 0 a completion that leaves ERR = 1 is that of a command whose check fails. -/
theorem engineMove_recorded {s t : State} (hb : s.BUSY = true) (herr : s.ERR = false) (h : engineMove s = .next t)
    (ht : t.ERR = true) : ∃ k, commandCheck s.CMDQ s = some k ∧ t.ERRCODE = k ∧ t.ERRINFO = s.CMDQ := by
  obtain ⟨hfails, hpasses⟩ := commandChecksInOrder s hb
  cases hc : commandCheck s.CMDQ s with
  | some k =>
    cases (hfails k hc).symm.trans h
    have hnot := Bool.eq_false_iff.mp herr
    exact ⟨k, rfl, if_neg hnot, if_neg hnot⟩
  | none =>
    obtain ⟨_, u, -, -, hu, hkept, -, -⟩ := hpasses hc
    cases hu.symm.trans h
    cases ht.symm.trans (hkept.trans herr)

/-- Only EXPAND and GETBLOCK raise NOT_CONFIGURED, and their words have RES0 = 0. -/
theorem low_byte_of_commandCheck_notConfigured {w : Word} {s : State} (h : commandCheck w s = some 4) :
    w.toNat % 256 = 0x11 ∨ w.toNat % 256 = 0x12 := by
  rw [commandCheck] at h
  split_ifs at h with hres _ _ hcause
  · cases h
  · cases h
  · omega
  all_goals cases h

/-! ### The errors of an access (R303, R305) -/

/-- A register write sets no error: it leaves ERR, and a STATUS write may clear it. -/
theorem writeReg_ERR {s : State} (herr : s.ERR = false) (r : Reg) (off : BitVec 8) (n : Size) (w : Word) :
    (writeReg r off n w s).ERR = false := by
  cases r with
  | status => exact (writeStatus_ERR w s).trans (by rw [herr, ite_self])
  | _ => exact herr

/-- An access outside KS_DATA that the access and busy checks pass records no error. -/
theorem hostAccess_ERR {a : Access} {s : State} (ha : accessRefused a = false) (hb : busyRefused a s = false)
    (hks : a.reg ≠ .ksData) (herr : s.ERR = false) : (hostAccess a s).ERR = false := by
  obtain ⟨h, -⟩ | ⟨-, h, -⟩ | ⟨-, -, -, -, -, h⟩ | ⟨-, -, -, h⟩ := hostAccess_cases a s
  · cases ha.symm.trans h
  · cases hb.symm.trans h
  · rw [h]
    exact herr
  · rw [h]
    cases a with
    | read off n =>
      rw [performAccess, if_neg (show decodeOffset off ≠ .ksData from hks)]
      exact herr
    | write off n w => exact writeReg_ERR herr _ off n w

/-- An accepted access to KS_DATA is a read at 0xBC, and in an idle block its own checks follow (44_keystream.md R199). -/
theorem hostAccess_ksData {a : Access} {s : State} (ha : accessRefused a = false) (hb : s.BUSY = false)
    (hks : a.reg = .ksData) : ∃ n, a = .read 0xBC n ∧ hostAccess a s = readKs a s := by
  obtain ⟨n, rfl⟩ := ksData_access ha hks
  obtain ⟨hn, -⟩ := accessRefused_eq_false.mp ha
  exact ⟨n, rfl, hostAccess_readStream hn hb⟩

/-- An access to KS_DATA and a write but to STATUS are what the busy checks refuse (20_memory.md R68(a), (b)). -/
theorem busyRefused_eq_true {a : Access} {s : State} :
    busyRefused a s = true ↔ s.BUSY = true ∧ (a.isWrite = true ∧ a.reg ≠ .status ∨ a.reg = .ksData) := by
  cases hw : a.isWrite
  · simp [busyRefused, hw]
  · have hks : a.reg = .ksData → a.reg ≠ .status := fun h => h.trans_ne (by decide)
    simpa [busyRefused, hw] using fun _ => hks

/-- From ERR = 0 an access that leaves ERR = 1 is one that was refused, and NOT_CONFIGURED is refused at 0xBC only. -/
theorem hostAccess_recorded {a : Access} {s : State} (herr : s.ERR = false) (h : (hostAccess a s).ERR = true) :
    ∃ k : BitVec 4, hostAccess a s = refusedAccess k a s ∧ (k = 4 → a.off = 0xBC) := by
  cases ha : accessRefused a with
  | true => exact ⟨7, hostAccess_of_accessRefused ha s, nofun⟩
  | false =>
    cases hb : busyRefused a s with
    | true => exact ⟨6, hostAccess_of_busyRefused ha hb, nofun⟩
    | false =>
      have hks : a.reg = .ksData := by
        by_contra hks
        cases h.symm.trans (hostAccess_ERR ha hb hks herr)
      obtain ⟨n, rfl⟩ := ksData_access ha hks
      obtain ⟨k, hk⟩ | hk := hostAccess_readStream_cases n s
      · exact ⟨k, hk, fun _ => rfl⟩
      · rw [hk, respond_ERR, advance_ERR, herr] at h
        cases h

/-- Settles O52: the fields of the access word, then what a failed command and a refused access record. -/
theorem errorInfoLayout : Obligations.ErrorInfoLayout := by
  refine ⟨fun a => ?_, fun s t hb herr h ht => ?_, ?_⟩
  · obtain ⟨hoff, hsize, hwrite, hlt⟩ := accessWord_fields a
    exact ⟨hoff, hsize.trans (by cases a.size <;> rfl), hwrite, hlt⟩
  · obtain ⟨k, hcheck, hcode, hinfo⟩ := engineMove_recorded hb herr h ht
    refine ⟨hinfo, fun h4 => ?_⟩
    rw [hinfo]
    exact low_byte_of_commandCheck_notConfigured (hcheck.trans (congrArg some (hcode.symm.trans h4)))
  · rintro s _ a herr rfl ht
    obtain ⟨k, hk, hoff⟩ := hostAccess_recorded herr ht
    rw [hk, refusedAccess_ERRCODE herr, refusedAccess_ERRINFO herr]
    refine ⟨rfl, fun h4 => ?_⟩
    obtain ⟨hlow, -⟩ := accessWord_fields a
    rw [hlow, hoff h4]
    rfl

/-- Settles O53: the checks in their order, and the accesses that pass them all. -/
theorem accessErrorPriority : Obligations.AccessErrorPriority := by
  intro s a herr
  refine ⟨fun ha => ?_, fun ha hb hcause => ?_, fun ha hb hks hconf => ?_, fun ha hb hks hconf hend => ?_,
    fun ha hb hks hconf hmore hroom => ?_, fun ha hks hopen => ?_⟩
  · rw [hostAccess_of_accessRefused ha, refusedAccess_ERRCODE herr]
  · rw [hostAccess_of_busyRefused ha (busyRefused_eq_true.mpr ⟨hb, hcause⟩), refusedAccess_ERRCODE herr]
  · obtain ⟨n, rfl, h⟩ := hostAccess_ksData ha hb hks
    rw [h, readKs_unconfigured hconf, refusedAccess_ERRCODE herr]
  · obtain ⟨n, rfl, h⟩ := hostAccess_ksData ha hb hks
    rw [h, readKs_pastEnd (n := n) hconf (pastEnd_eq_true.mpr hend), refusedAccess_ERRCODE herr]
  · obtain ⟨n, rfl, h⟩ := hostAccess_ksData ha hb hks
    have hin : pastEnd n.toNat s = false := by
      refine Bool.eq_false_iff.mpr fun hpast => ?_
      obtain hset | ⟨hlast, hover⟩ := pastEnd_eq_true.mp hpast
      · cases hmore.symm.trans hset
      · exact hroom.elim (· hlast) hover.not_ge
    rw [h, readKs_performed hconf hin, respond_ERR, advance_ERR, herr]
  · refine hostAccess_ERR ha (Bool.eq_false_iff.mpr fun hbusy => ?_) hks herr
    obtain ⟨hb, ⟨hw, hst⟩ | hdata⟩ := busyRefused_eq_true.mp hbusy
    · simp [hb, hw, hst] at hopen
    · exact hks hdata

/-! ### The block never stops (R300) -/

/-- An ENGINE move answers a next state, whether or not a command is latched. -/
theorem engineMove_next (s : State) : ∃ t, engineMove s = .next t := by
  cases hb : s.BUSY with
  | false => exact ⟨s, engineMove_idle hb⟩
  | true =>
    obtain ⟨t, ht, -⟩ := engineMove_completes hb
    exact ⟨t, ht⟩

/-- Settles O54: a step is an ENGINE move, a host access or a reset, and each of them answers a next state. -/
theorem theBlockNeverStops : Obligations.TheBlockNeverStops := by
  intro s
  obtain ⟨-, h⟩ | ⟨rest, -, h⟩ | ⟨a, rest, -, h⟩ | ⟨rest, -, h⟩ := step_cases s <;> rw [h]
  · exact engineMove_next s
  · exact engineMove_next _
  · exact ⟨_, rfl⟩
  · exact ⟨_, rfl⟩

end Sys2Proof.Machine

/-! ## Reset (70_reset_and_hazards.md R400, R401, R403) -/

namespace Sys2Proof.Machine

theorem step_reset {s : State} {rest : List Move} (h : s.moves = .reset :: rest) :
    step s = .next (resetStep { s with moves := rest }) := by
  unfold step
  rw [h]

/-- The state after reset is what RESET makes of itself. -/
theorem resetStep_reset : resetStep State.reset = State.reset := rfl

theorem reset_S : ∀ i : WordIndex, State.reset.S[i] = 0 := by decide

theorem reset_KEY : ∀ j : Fin 8, State.reset.KEY[j] = 0 := by decide

theorem reset_NONCE : ∀ j : Fin 2, State.reset.NONCE[j] = 0 := by decide

theorem ctrlWord_resetStep (s : State) : ctrlWord (resetStep s) = 0 := by
  rw [ctrlWord_eq, resetStep_KEYLEN, resetStep_IE]
  rfl

/-- RESET clears all six fields of STATUS. -/
theorem statusWord_resetStep (s : State) : statusWord (resetStep s) = 0 := by
  rw [statusWord_eq, resetStep_BUSY, resetStep_DONE, resetStep_ERR, resetStep_CONFIGURED, resetStep_KSEND,
    resetStep_ERRCODE]
  rfl

/-- IE = 0 after RESET, so the interrupt line is low (R308). -/
theorem irq_resetStep (s : State) : irq (resetStep s) = false := by
  rw [irq, resetStep_IE, Bool.false_and]

/-- A read of ID returns the constant, in any state. -/
theorem hostAccess_readId_rdata (s : State) : (hostAccess (.read 0x00 .four) s).rdata = some 0x4B303253 := by
  obtain ⟨hid, -⟩ := controlRegisterReads s
  rw [hid]

/-- Settles O56: RESET writes each register from constants, whatever the state it finds, and the state after reset is a
fixed point of it. -/
theorem resetGivesTheResetValues : Obligations.ResetGivesTheResetValues := by
  refine ⟨fun s rest h => ?_, ?_⟩
  · exact ⟨_, step_reset h, reset_S, reset_KEY, reset_NONCE, resetStep_BLKCTR _, resetStep_KSBLK _, resetStep_KSOFF _,
      resetStep_ERRINFO _, resetStep_CMDQ _, ctrlWord_resetStep _, statusWord_resetStep _, irq_resetStep _,
      resetStep_BUSY _, resetStep_DONE _, hostAccess_readId_rdata _⟩
  · rw [← resetStep_reset]
    exact ⟨ctrlWord_resetStep _, statusWord_resetStep _, irq_resetStep _, reset_S, reset_KEY, reset_NONCE,
      resetStep_BLKCTR _, resetStep_KSBLK _, resetStep_KSOFF _, resetStep_ERRINFO _, resetStep_CMDQ _⟩

end Sys2Proof.Machine
